-- ==== Sys2Proof/Word.lean ====
section
/-! DEFINITION. The words of the block: bytes, the 16-bit CRC word, the 12-bit command word (rules R13, R20, R92). -/

namespace Sys2Proof

/-- A byte, rule R13: an unsigned integer 0 to 255; bit 7 is the most significant. -/
abbrev Byte := BitVec 8

/-- The width of the CRC register and of the register id, rules R6 (`CRC_WIDTH`) and R81. -/
abbrev Word := BitVec 16

/-- The word at the host's command port, rule R92. -/
abbrev CmdWord := BitVec 12

end Sys2Proof
end

