-- ==== Sys2Proof/Config.lean ====
section
/-! DEFINITION. What is fixed for the machine: the constants of rule R6, the open parameters of rules R7, R8 and R12,
and the values the spec leaves to the environment (U3, U4, U6), each an opaque constant without a body. -/

namespace Sys2Proof

/-- The open parameters a model takes as an argument: `TX_BUF_MAX` (rule R7) and `RX_BUF_MAX` (rule R8), each a
natural number or "unbounded" (`none`). They are carried in `Machine.State` so that every statement holds for every
capacity; no operation changes them (log entry 8). -/
structure Params where
  /-- `TX_BUF_MAX`, rule R7. -/
  txBufMax : Option Nat
  /-- `RX_BUF_MAX`, rule R8. -/
  rxBufMax : Option Nat
  deriving DecidableEq, Repr

/-- Rules R7 and R8: a bounded `TX_BUF_MAX` is at least 5, a bounded `RX_BUF_MAX` at least 1. -/
def Params.legal (p : Params) : Bool :=
  (p.txBufMax.all fun n => decide (5 ≤ n)) && (p.rxBufMax.all fun n => decide (1 ≤ n))

namespace Config

/-- `POLY`, rule R6: x^16 + x^12 + x^5 + 1 with the x^16 term implied. -/
def poly : Word := 0x1021#16

/-- `CRC_INIT`, rule R6. -/
def crcInit : Word := 0x0000#16

/-- `ESC_MARK`, rule R6: the first byte of an escape pair. -/
def escMark : Byte := 0x1B#8

/-- `ESC_XOR`, rule R6: the second byte of a pair is the byte XOR this. -/
def escXor : Byte := 0xFF#8

/-- `TERM`, rule R6: the frame terminator. -/
def term : Byte := 0x0D#8

/-- `RESYNC`, rule R6: the inbound resynchronization marker. -/
def resync : Byte := 0x40#8

/-- `PREFIX_REQ`, rule R6: the prefix byte the host uses for requests. -/
def prefixReq : Byte := 0x80#8

/-- `HDR0`, rule R6. -/
def hdr0 : Byte := 0x3F#8

/-- `HDR1`, rule R6. -/
def hdr1 : Byte := 0x10#8

/-- `REQ_COUNT`, rule R6. -/
def reqCount : Byte := 0x01#8

/-- `UNIT_MAX`, rule R6: the highest unit code that may have a label. -/
def unitMax : Nat := 64

/-- The one code up to `UNIT_MAX` without a label, rules R12 and R182. -/
def unitBlank : Nat := 51

/-- FREE VALUE (U4, rule R127): does the transport fail the `n`-th write for which the state lists no answer?
The environment's draw; nothing constrains it (log entry 6). -/
opaque txFails : Nat → Bool

/-- FREE VALUE (U3, rule R128): how many bytes of the frame reached the line on the `n`-th write, when it failed.
Any number, so any prefix of the frame, the whole of it included (log entry 7). -/
opaque lineOnFail : Nat → Nat

/-- FREE VALUE (U6, rule R12): what `UNIT_TABLE`, a partial function, gives a unit code other than 2: any label, or none
(log entry 10). -/
opaque unitText : Nat → Option String

end Config

end Sys2Proof
end

