-- ==== Sys2Proof/Machine/Bytes.lean ====
section
/-! DEFINITION. The spec's functions on byte sequences: `be16`, `benat` and slices (rule R14), the CRC step and `crc16`,
`fcs` (rules R102 to R108), `esc`, `stuff`, `encode` (rules R121 to R123), `unescape` (rule R147), the strict reading of
a frame, and the payload layouts (rules R83, R85). -/

namespace Sys2Proof.Machine

/-- Membership in the Escape Table `ESC_SET`, rule R6. -/
def inEscSet (b : Byte) : Bool :=
  b == 0x06#8 || b == 0x0D#8 || b == 0x1B#8 || b == 0x40#8 || b == 0x80#8

/-- `be16(v)`, rule R14: a 16-bit value, high byte first. -/
def be16 (v : Word) : List Byte := [v.extractLsb' 8 8, v.extractLsb' 0 8]

/-- `benat(s)`, rule R14: the big-endian unsigned integer of a byte sequence. -/
def benat (s : List Byte) : Nat := s.foldl (fun acc b => acc * 256 + b.toNat) 0

/-- `s[i..j)`, rule R14: the elements at indices `i` up to but not including `j`. -/
def slice (s : List Byte) (i j : Nat) : List Byte := (s.drop i).take (j - i)

/-- `s[i]`, rule R14; 0 past the end, which no rule reads (rules R56, R172) but the status port (rule R40). -/
def byteAt (s : List Byte) (i : Nat) : Byte := s.getD i 0#8

/-- One bit into the CRC register, rule R102: `t` is 17 bits, `t[16]` the old `crc[15]`, `t[0]` the message bit. -/
def crcShift (crc : Word) (b : Bool) : Word :=
  let t : BitVec 17 := crc ++ BitVec.ofBool b
  if t.getLsbD 16 then t.setWidth 16 ^^^ Config.poly else t.setWidth 16

/-- The bits of a byte in the order they enter the CRC register, rule R53: most significant first. -/
def bitsOf (v : Byte) : List Bool :=
  [v.getLsbD 7, v.getLsbD 6, v.getLsbD 5, v.getLsbD 4, v.getLsbD 3, v.getLsbD 2, v.getLsbD 1, v.getLsbD 0]

/-- One byte into the CRC register, rule R103: eight bits, most significant first. -/
def crcByteStep (crc : Word) (v : Byte) : Word := (bitsOf v).foldl crcShift crc

/-- Bytes into the CRC register from a start value, rules R104 and R105. -/
def crcFrom (crc : Word) (s : List Byte) : Word := s.foldl crcByteStep crc

/-- `crc16(s)`, rule R104: from the cleared register. -/
def crc16 (s : List Byte) : Word := crcFrom Config.crcInit s

/-- `fcs(m)`, rule R108: the value a frame carries, `crc16` over the payload and two zero placeholders (rule R107). -/
def fcs (m : List Byte) : Word := crc16 (m ++ [0x00#8, 0x00#8])

/-- The escape pair of a byte, rule R72. -/
def escPair (b : Byte) : List Byte := [Config.escMark, b ^^^ Config.escXor]

/-- `esc(b)`, rule R121. -/
def esc (b : Byte) : List Byte := if inEscSet b then escPair b else [b]

/-- `stuff(s)`, rule R122. -/
def stuff (s : List Byte) : List Byte := s.flatMap esc

/-- `encode(P, m)`, rule R123: prefix byte raw, payload and CRC stuffed, terminator raw. -/
def encodeFrame (p : Byte) (m : List Byte) : List Byte := [p] ++ stuff (m ++ be16 (fcs m)) ++ [Config.term]

/-- The scan of rule R147 over what follows the prefix byte, terminator still on: at its last byte the scan has ended; a
marker takes the byte after it, be that the terminator (rule R149). The Bool is `me`. -/
def scan : List Byte → List Byte × Bool
  | [] => ([], false)
  | [_] => ([], false)
  | b :: c :: rest =>
    if b == Config.escMark then
      let v := c ^^^ Config.escXor
      let r := scan rest
      (v :: r.1, !inEscSet v || r.2)
    else
      let r := scan (c :: rest)
      (b :: r.1, r.2)

/-- `unescape(buf)`, rule R147: the scan of the buffer without its first byte. -/
def unescape (buf : List Byte) : List Byte × Bool := scan (buf.drop 1)

/-- Stripping the CRC, rule R151: `u[0 .. max(len(u) - 2, 0))`. -/
def stripCrc (u : List Byte) : List Byte := u.take (u.length - 2)

/-- The strict inverse of `stuff`, for reading a FRAME item (log entry 25): literals outside the Escape Table and the
five pairs of rule R73, nothing else. -/
def unstuff : List Byte → Option (List Byte)
  | [] => some []
  | [b] => if inEscSet b then none else some [b]
  | b :: c :: rest =>
    if b == Config.escMark then
      if inEscSet (c ^^^ Config.escXor) then (unstuff rest).map ((c ^^^ Config.escXor) :: ·) else none
    else if inEscSet b then none
    else (unstuff (c :: rest)).map (b :: ·)

/-- The register-read request payload, rule R83. -/
def requestPayload (id : Word) : List Byte := [Config.hdr0, Config.hdr1, Config.reqCount] ++ be16 id

/-- The header-only reply, rule R176. -/
def emptyPayload : List Byte := [Config.hdr0, Config.hdr1]

/-- The reply layout of rule R85, CRC stripped; the length byte is the mantissa's length. -/
def valuePayload (reg : Word) (unit ctl : Byte) (mant tail : List Byte) : List Byte :=
  [Config.hdr0, Config.hdr1] ++ be16 reg ++ [unit, BitVec.ofNat 8 mant.length, ctl] ++ mant ++ tail

/-- The low `n` bytes of a number, most significant first (rule R52). -/
def bytesBE : Nat → Nat → List Byte
  | 0, _ => []
  | n + 1, w => bytesBE n (w / 256) ++ [BitVec.ofNat 8 w]

end Sys2Proof.Machine
end

