-- ==== Sys2Proof/Syntax.lean ====
section
/-! DEFINITION. The instructions: one constructor per row of spec/opcode_table.json (rules R70 to R97), and the forms in
which an instruction stands before the block: a command word, a pin, a received symbol, an item of a wire or payload
format. -/

namespace Sys2Proof

/-- The formats of rule R70, with the two rows of the table that have no bits (`event`, `pin`, rule R97). -/
inductive Format where
  | hostCmd
  | wireRx
  | event
  | pin
  | wireTx
  | wireScan
  | frame
  | payload
  deriving DecidableEq, Repr

/-- One constructor per row of spec/opcode_table.json. The first sixteen are command words (rules R91 to R93), the next
four the transport's answers to a pull (rules R75, R97), then the RESET pin (rule R240). The rest are the rows of the
wire and payload formats, which the operations are made of: what each does as an instruction is log entries 11
and 12. -/
inductive Instr where
  /-- `CRC.CLR`, rule R101. -/
  | crcClr
  /-- `CRC.BIT b`, rule R102: the operand is one bit. -/
  | crcBit (b : Bool)
  /-- `CRC.BYTE B`, rule R103. -/
  | crcByte (v : Byte)
  /-- `ENC.PUSH B`, rule R124. -/
  | encPush (v : Byte)
  /-- `ENC.SEND P`, rule R125: the operand is the prefix byte. -/
  | encSend (p : Byte)
  /-- `DEC.ARM`, rule R141. -/
  | decArm
  /-- `UNP.DECODE`, rule R171. -/
  | unpDecode
  /-- Command code 0x0, reserved, rule R93. -/
  | reserved0
  /-- Command code 0x8, reserved, rule R93. -/
  | reserved8
  /-- Command code 0x9, reserved, rule R93. -/
  | reserved9
  /-- Command code 0xA, reserved, rule R93. -/
  | reservedA
  /-- Command code 0xB, reserved, rule R93. -/
  | reservedB
  /-- Command code 0xC, reserved, rule R93. -/
  | reservedC
  /-- Command code 0xD, reserved, rule R93. -/
  | reservedD
  /-- Command code 0xE, reserved, rule R93. -/
  | reservedE
  /-- Command code 0xF, reserved, rule R93. -/
  | reservedF
  /-- `RX.BYTE 0x40`, class `RX.RESYNC`, rule R144. -/
  | rxResync
  /-- `RX.BYTE 0x0D`, class `RX.TERM`, rule R146. -/
  | rxTerm
  /-- `RX.BYTE b` for every other byte, class `RX.DATA`, rule R145. -/
  | rxData (b : Byte)
  /-- `RX.TIMEOUT`, rule R152. -/
  | rxTimeout
  /-- The `RESET` pin, rule R240. -/
  | reset
  /-- `TX.ESC.06`, rules R74 and R121. -/
  | txEsc06
  /-- `TX.ESC.0D`, rules R74 and R121. -/
  | txEsc0D
  /-- `TX.ESC.1B`, rules R74 and R121. -/
  | txEsc1B
  /-- `TX.ESC.40`, rules R74 and R121. -/
  | txEsc40
  /-- `TX.ESC.80`, rules R74 and R121. -/
  | txEsc80
  /-- `TX.LIT`, rules R74 and R121: a byte outside the Escape Table. -/
  | txLit (b : Byte)
  /-- `SCAN.PAIR`, rules R76 and R147: the byte after the marker. -/
  | scanPair (x : Byte)
  /-- `SCAN.LIT`, rules R76 and R147: a byte that is no marker. -/
  | scanLit (x : Byte)
  /-- `FRAME`, rules R71 and R123: a whole frame, prefix byte and payload. -/
  | frame (p : Byte) (m : List Byte)
  /-- `REQ.READ`, rules R83 and R224: the register-read request for a register id. -/
  | reqRead (id : Word)
  /-- `REPLY.EMPTY`, rule R176: the header-only reply. -/
  | replyEmpty
  /-- `REPLY.VALUE`, rules R85 and R177: register id, unit, exponent-control byte, mantissa bytes, and the bytes past the
  mantissa, which are ignored (rule R181). The length byte is the mantissa's length. -/
  | replyValue (reg : Word) (unit : Byte) (ctl : Byte) (mant : List Byte) (tail : List Byte)
  /-- `EXP_CTRL`, rules R87 and R178: an exponent-control byte. -/
  | expCtrl (c : Byte)
  deriving DecidableEq, Repr

/-- One answer of the transport's read, rule R17: a byte or a timeout. -/
inductive Symbol where
  | byte (b : Byte)
  | timeout
  deriving DecidableEq, Repr

/-- The formats whose items no port carries: they stand inside a frame or a payload (rules R71, R74, R76, R83, R85). -/
inductive ItemFormat where
  | wireTx
  | wireScan
  | frame
  | payload
  deriving DecidableEq, Repr

/-- What the host puts before the block: a command word (rule R92), the RESET pin (rule R240), or, in this model alone
(log entry 11), one item of a wire or payload format. -/
inductive HostInput where
  | word (w : CmdWord)
  | resetPin
  | item (f : ItemFormat) (bytes : List Byte)
  deriving DecidableEq, Repr

/-- An instruction as it stands before the block, not yet decoded: on the host's side or on the transport's. -/
inductive Port where
  | host (x : HostInput)
  | line (x : Symbol)
  deriving DecidableEq, Repr

/-- The format of each row of the table (rule R70), as spec/opcode_table.json gives it. -/
def Instr.format : Instr → Format
  | .crcClr | .crcBit _ | .crcByte _ | .encPush _ | .encSend _ | .decArm | .unpDecode => .hostCmd
  | .reserved0 | .reserved8 | .reserved9 | .reservedA | .reservedB | .reservedC | .reservedD | .reservedE
  | .reservedF => .hostCmd
  | .rxResync | .rxTerm | .rxData _ => .wireRx
  | .rxTimeout => .event
  | .reset => .pin
  | .txEsc06 | .txEsc0D | .txEsc1B | .txEsc40 | .txEsc80 | .txLit _ => .wireTx
  | .scanPair _ | .scanLit _ => .wireScan
  | .frame _ _ => .frame
  | .reqRead _ | .replyEmpty | .replyValue _ _ _ _ _ | .expCtrl _ => .payload

/-- The format in which a port holds its contents. -/
def Port.format : Port → Format
  | .host (.word _) => .hostCmd
  | .host .resetPin => .pin
  | .host (.item .wireTx _) => .wireTx
  | .host (.item .wireScan _) => .wireScan
  | .host (.item .frame _) => .frame
  | .host (.item .payload _) => .payload
  | .line (.byte _) => .wireRx
  | .line .timeout => .event

/-- Why the bytes of an item are no encoding of its format; the decoder's rejections by name. -/
inductive DecodeError where
  /-- A `wire-tx` item is one byte (rule R74). -/
  | txItemLength
  /-- A `wire-scan` item is `0x1B` and one byte, or one byte that is not `0x1B` (rule R76). -/
  | scanItem
  /-- A frame has a prefix byte and ends in the terminator (rule R71). -/
  | frameEnds
  /-- Between its ends a frame holds literals outside the Escape Table and the five pairs (rules R71 to R73). -/
  | frameStuffing
  /-- The last two bytes before the terminator are the CRC of the payload (rules R71, R79). -/
  | frameCrc
  /-- A payload item of this length is none of the rows of format `payload` (rules R83, R86). -/
  | payloadLength
  /-- A request or reply begins with `0x3F 0x10`, a request's third byte is `0x01` (rules R83, R85). -/
  | payloadHeader
  /-- A reply is at least 7 bytes plus its mantissa length (rule R86). -/
  | payloadShort
  deriving DecidableEq, Repr

end Sys2Proof
end

