-- ==== Sys2Proof/Machine/State.lean ====
section
/-! DEFINITION. The state: the block's own (`Block`, rule R20), what the host and the transport hold (`Env`, rules R33,
R38, R95), a work area of the model (`Work`, log entry 11) and the open parameters (rules R7, R8); the ways a step can
stop; the state after reset (rule R42). -/

namespace Sys2Proof.Machine

/-- `dec_state`, rule R25. -/
inductive DecState where
  | idle
  | acc
  deriving DecidableEq, Repr

/-- `dec_result`, rule R31. -/
inductive DecResult where
  | none
  | noFrame
  | frame
  deriving DecidableEq, Repr

/-- `unp_outcome`, rule R34. -/
inductive UnpOutcome where
  | none
  | noResponse
  | badHeader
  | emptyReply
  | malformed
  | value
  deriving DecidableEq, Repr

/-- The two sticky faults, rule R30. -/
inductive FaultBit where
  | txFail
  | rxOvf
  deriving DecidableEq, Repr

/-- The unpacker's value fields, rule R35. -/
structure ValueFields where
  /-- `reg_echo`, 16 bits. -/
  regEcho : Word
  /-- `unit`, 8 bits. -/
  unit : Byte
  /-- `unit_known`, 1 bit. -/
  unitKnown : Bool
  /-- `mant_len`, 8 bits. -/
  mantLen : Byte
  /-- `exp_ctrl`, 8 bits. -/
  expCtrl : Byte
  /-- `sign`, 1 bit. -/
  sign : Bool
  /-- `exp`, an integer from -63 to 63. -/
  exp : Int
  /-- `mant`, unsigned, `8 * mant_len` bits. -/
  mant : Nat
  deriving DecidableEq, Repr

/-- All value fields zero, rules R35 and R42. -/
def ValueFields.zero : ValueFields :=
  { regEcho := 0#16, unit := 0#8, unitKnown := false, mantLen := 0#8, expCtrl := 0#8, sign := false, exp := 0, mant := 0 }

/-- The whole state of the block, the tuple of rule R20. -/
structure Block where
  /-- `crc`, rule R23. -/
  crc : Word
  /-- `tx_buf`, rule R24. -/
  txBuf : List Byte
  /-- `dec_state`, rule R25. -/
  decState : DecState
  /-- `rx_buf`, rule R26. -/
  rxBuf : List Byte
  /-- `pl`, rule R27. -/
  pl : List Byte
  /-- `MISSING_ESC`, rule R28. -/
  missingEsc : Bool
  /-- `CRC_ERR`, rule R29. -/
  crcErr : Bool
  /-- `fault.TX_FAIL`, rule R30. -/
  txFail : Bool
  /-- `fault.RX_OVF`, rule R30. -/
  rxOvf : Bool
  /-- `dec_result`, rule R31. -/
  decResult : DecResult
  /-- `unp_outcome`, rule R34. -/
  unpOutcome : UnpOutcome
  /-- `reg_echo` to `mant`, rule R35. -/
  value : ValueFields
  deriving DecidableEq, Repr

/-- The block after RESET, rule R42. -/
def Block.reset : Block :=
  { crc := Config.crcInit, txBuf := [], decState := .idle, rxBuf := [], pl := [], missingEsc := false, crcErr := false,
    txFail := false, rxOvf := false, decResult := .none, unpOutcome := .none, value := .zero }

/-- The transport's answer to a `TxWrite`, rule R127. -/
inductive TxAnswer where
  | ok
  | fail
  deriving DecidableEq, Repr

/-- The command port's answer to a word, rules R92 and R208. -/
inductive PortAnswer where
  | ok
  | rejected
  deriving DecidableEq, Repr

/-- Who makes the block step, rules R18 and R211. -/
inductive Agent where
  | host
  | transport
  deriving DecidableEq, Repr

/-- What stands around the block and is not its state (rules R21, R33, R38, R95): the operations the host will issue, the
symbols the transport will deliver, the transport's answers to come, whose turn it is, and the record of what the block
has answered and written. No operation of the block reads the records (log entries 1 to 9). -/
structure Env where
  /-- The host's operations still to be issued, in order (rule R95). -/
  ops : List HostInput
  /-- The symbols the transport has yet to deliver, in order (rules R33, R38, R51). -/
  syms : List Symbol
  /-- Whose turn comes next; when empty, rule R211 says (log entry 2). -/
  turns : List Agent
  /-- The transport's answers to the writes to come (rule R127, U4); when empty, a free value (log entry 6). -/
  txAnswers : List TxAnswer
  /-- The model's counter of draws, one for each `TxWrite`: the argument of the free values (log entries 6 and 7). -/
  draws : Nat
  /-- The command port's answers so far, newest first (rule R92; log entry 9). -/
  answers : List PortAnswer
  /-- The history of `TxWrite` calls with their answers, newest first (rule R38; log entry 9). -/
  writes : List (List Byte × TxAnswer)
  /-- The bytes that reached the line, in order (rules R127, R128; log entry 7). -/
  line : List Byte
  deriving DecidableEq, Repr

/-- Nothing issued, delivered, answered or written yet. -/
def Env.empty : Env :=
  { ops := [], syms := [], turns := [], txAnswers := [], draws := 0, answers := [], writes := [], line := [] }

/-- The model's work area: what the rows of the wire formats and the exponent-control byte give when one of them is run by
itself (log entry 11). Inside an operation these values exist only within the step (rule R50), so no operation of the
block reads or writes this area. -/
structure Work where
  /-- The bytes the TX rows have put out (rule R74). -/
  out : List Byte
  /-- `u` of rule R147, as the SCAN rows have built it. -/
  u : List Byte
  /-- `me` of rule R147. -/
  me : Bool
  /-- The last exponent-control byte run by itself (rule R87). -/
  expCtrl : Byte
  /-- Its sign field (rule R179). -/
  sign : Bool
  /-- Its exponent (rule R178). -/
  exp : Int
  deriving DecidableEq, Repr

/-- The work area before any row was run by itself. -/
def Work.empty : Work := { out := [], u := [], me := false, expCtrl := 0#8, sign := false, exp := 0 }

structure State where
  /-- The block's state, rule R20. -/
  blk : Block
  /-- What the host and the transport hold. -/
  env : Env
  /-- The model's work area. -/
  work : Work
  /-- `TX_BUF_MAX` and `RX_BUF_MAX`, which no operation changes. -/
  params : Params
  deriving DecidableEq, Repr

/-- The machine right after reset, rule R42, with nothing placed before it and both capacities unbounded, the value Part 3
of 95_test_vectors.md takes unless it says another (log entry 8). -/
def State.reset : State :=
  { blk := .reset, env := .empty, work := .empty, params := { txBufMax := none, rxBufMax := none } }

/-- Why the machine can stop with a fault. The block's own faults `TX_FAIL` and `RX_OVF` are no stop: they are sticky bits
of its state (rule R205), and the machine goes on. -/
inductive Fault where
  /-- Raised by `step` alone: the decoder pulls a symbol and the transport has none, not even a timeout. The transport's
  duty is to answer every pull (rules R230, R257), and without an answer there is "no step at all". Safe: the model
  stops where the block is stuck (log entry 4). -/
  | transportSilent
  deriving DecidableEq, Repr

/-- Why the model can refuse to go on. -/
inductive Refusal where
  /-- An instruction without a meaning; no arm of `exec` answers so. Safe. -/
  | notModelled (mnemonic : String)
  /-- Raised by `step` alone: an item placed before the block by itself is no encoding of its format. Command words and
  received symbols are never refused. Safe (log entry 15). -/
  | notAnEncoding (why : DecodeError)
  deriving DecidableEq, Repr

/-- The outcome of a meaning. -/
abbrev Out := Host.Outcome State Fault Refusal

/-- What stands before the block in a state: nothing, a pull without an answer, or an encoded instruction together with
the state once it is taken. -/
inductive Fetched where
  | idle (s : State)
  | silent
  | got (p : Port) (s : State)
  deriving DecidableEq, Repr

end Sys2Proof.Machine
end

