-- ==== Sys2Proof/Machine/Operands.lean ====
section
/-! DEFINITION. The operand forms: the exponent-control byte (rule R87), the fields of a reply payload (rules R85, R177),
and the unpacker's function (rule R172). -/

namespace Sys2Proof.Machine

/-- The exponent magnitude, `exp_ctrl[5:0]`, rules R87 and R178. -/
def expMagnitude (c : Byte) : Nat := (c.extractLsb' 0 6).toNat

/-- The exponent's sign bit, `exp_ctrl[6]`, rules R87 and R178. -/
def expNegative (c : Byte) : Bool := c.getLsbD 6

/-- `exp`, rules R177 and R178: sign and magnitude. -/
def expOf (c : Byte) : Int := if expNegative c then -(expMagnitude c : Int) else (expMagnitude c : Int)

/-- `sign`, rules R177 and R179: `exp_ctrl[7]`. -/
def signOf (c : Byte) : Bool := c.getLsbD 7

/-- `unit_known`, rule R182: `unit <= 64 and unit != 51`. -/
def unitKnownOf (u : Byte) : Bool := decide (u.toNat ≤ Config.unitMax) && u.toNat != Config.unitBlank

/-- The reply has the header of rule R85. -/
def goodHeader (p : List Byte) : Bool := byteAt p 0 == Config.hdr0 && byteAt p 1 == Config.hdr1

/-- The fields of a `VALUE`, rule R177. -/
def fieldsOf (p : List Byte) : ValueFields :=
  { regEcho := BitVec.ofNat 16 ((byteAt p 2).toNat * 256 + (byteAt p 3).toNat)
    unit := byteAt p 4
    unitKnown := unitKnownOf (byteAt p 4)
    mantLen := byteAt p 5
    expCtrl := byteAt p 6
    sign := signOf (byteAt p 6)
    exp := expOf (byteAt p 6)
    mant := benat (slice p 7 (7 + (byteAt p 5).toNat)) }

/-- `unpack(result, p)`, rule R172: the tests in the rule's order, the first that applies decides. -/
def unpack (r : DecResult) (p : List Byte) : UnpOutcome × ValueFields :=
  if r = .noFrame then (.noResponse, .zero)
  else if p.length < 2 then (.malformed, .zero)
  else if !goodHeader p then (.badHeader, .zero)
  else if p.length = 2 then (.emptyReply, .zero)
  else if p.length < 7 then (.malformed, .zero)
  else if p.length < 7 + (byteAt p 5).toNat then (.malformed, .zero)
  else (.value, fieldsOf p)

end Sys2Proof.Machine
end

