-- ==== Sys2Proof/Machine/Flags.lean ====
section
/-! DEFINITION. The block's flags, rule R32: the two diagnostics, the two fault bits and what is read from them. -/

namespace Sys2Proof.Machine

/-- `CRC_ERR` from a residue, rules R29 and R150. -/
def crcErrOf (residue : Word) : Bool := residue != 0#16

/-- Does a decoded pair raise "missing escape"? Rule R148: on the decoded byte, not the received one. -/
def missingEscape (v : Byte) : Bool := !inEscSet v

/-- `fault != 0`, rule R205. -/
def Block.faulted (b : Block) : Bool := b.txFail || b.rxOvf

/-- The receive in progress, rule R25. -/
def Block.receiving (b : Block) : Bool := b.decState == .acc

/-- What makes every host operation reject, rules R205 and R209. -/
def Block.busy (b : Block) : Bool := b.faulted || b.receiving

/-- Does the block pull symbols? Rule R142: only in `DEC_ACC` and with no fault. -/
def Block.pulling (b : Block) : Bool := b.receiving && !b.faulted

/-- Raising a fault, rules R205 to R207 and R212: the sticky bit is set in the same step as the operation that caused
it; nothing is saved and no control moves. -/
def Block.raise (f : FaultBit) (b : Block) : Block :=
  match f with
  | .txFail => { b with txFail := true }
  | .rxOvf => { b with rxOvf := true }

/-- Is a buffer of this length full? Rules R124 and R153: `len = MAX`; never when unbounded. -/
def full (len : Nat) (cap : Option Nat) : Bool := cap == some len

end Sys2Proof.Machine
end

