-- ==== Sys2Proof/Machine/Ops.lean ====
section
/-! DEFINITION. The shared operations: the command port's answer and rejection (rules R208 to R210), the transport's write
(rules R127, R128), the pull of a symbol (rule R142), and running one meaning after another. -/

namespace Sys2Proof.Machine

/-- The block alone changes. -/
def State.onBlock (f : Block → Block) (s : State) : State := { s with blk := f s.blk }

/-- The command port answers, rules R92 and R208. -/
def State.answer (a : PortAnswer) (s : State) : State :=
  { s with env := { s.env with answers := a :: s.env.answers } }

/-- A host operation, rules R208 to R210: rejected, with nothing changed and nothing sent, when the block is faulted, when
a receive is in progress, or on the operation's own condition, tested in that order before anything else; otherwise
done and answered `OK`. -/
def hostOp (own : Bool) (f : State → State) (s : State) : Out :=
  .next (if s.blk.busy || own then s.answer .rejected else (f s).answer .ok)

/-- The transport's answer to the next write, rule R127: the next one the state lists, else the free value. -/
def Env.nextTxAnswer (e : Env) : TxAnswer :=
  match e.txAnswers with
  | a :: _ => a
  | [] => if Config.txFails e.draws then .fail else .ok

/-- What reaches the line of a written frame, rules R127 and R128: all of it on `OK`, some prefix of it on `FAIL`. -/
def Env.onLine (e : Env) (frame : List Byte) : List Byte :=
  match e.nextTxAnswer with
  | .ok => frame
  | .fail => frame.take (Config.lineOnFail e.draws)

/-- `TxWrite(frame)`, rules R127 and R128, seen from the transport: the write and its answer are recorded, the bytes that
reach the line follow those already there. -/
def Env.txWrite (frame : List Byte) (e : Env) : Env :=
  { e with
    txAnswers := e.txAnswers.tail
    draws := e.draws + 1
    writes := (frame, e.nextTxAnswer) :: e.writes
    line := e.line ++ e.onLine frame }

/-- What a `TxWrite` answer does to the block, rules R125 and R206. -/
def Block.afterWrite (a : TxAnswer) (b : Block) : Block :=
  match a with
  | .ok => b
  | .fail => b.raise .txFail

/-- The transport keeps a symbol the block has not taken, before those that follow it, rules R142 and R161. -/
def State.keepSymbols (xs : List Symbol) (s : State) : State :=
  { s with env := { s.env with syms := xs ++ s.env.syms } }

/-- A received symbol, rule R142: it has its effect only when the block pulls; else the block takes nothing and the symbol
stays with the transport (log entry 5). -/
def rxOp (x : Symbol) (f : Params → Block → Block) (s : State) : Out :=
  .next (if s.blk.pulling then s.onBlock (f s.params) else s.keepSymbols [x])

/-- One meaning after another, as a pseudo-operation's expansion runs them (rule R96). -/
def andThen (o : Out) (f : State → Out) : Out :=
  match o with
  | .next s => f s
  | .fault r => .fault r
  | .refused r => .refused r

end Sys2Proof.Machine
end

