-- ==== Sys2Proof/Machine/Crc.lean ====
section
/-! DEFINITION. The CRC unit's operations, 40_crc.md rules R101 to R103. -/

namespace Sys2Proof.Machine

/-- `CRC.CLR`, rule R101. -/
def execCrcClr (s : State) : Out :=
  hostOp false (fun s => s.onBlock fun b => { b with crc := Config.crcInit }) s

/-- `CRC.BIT b`, rule R102. -/
def execCrcBit (b : Bool) (s : State) : Out :=
  hostOp false (fun s => s.onBlock fun k => { k with crc := crcShift k.crc b }) s

/-- `CRC.BYTE B`, rule R103. -/
def execCrcByte (v : Byte) (s : State) : Out :=
  hostOp false (fun s => s.onBlock fun k => { k with crc := crcByteStep k.crc v }) s

end Sys2Proof.Machine
end

