-- ==== Sys2Proof/Machine/Decoder.lean ====
section
/-! DEFINITION. The frame decoder, 42_decoder.md: DEC.ARM (rule R141), the received symbols (rules R142 to R153) and the
wire-scan rows run by themselves (rules R76, R147). -/

namespace Sys2Proof.Machine

/-- What DEC.ARM does when it is taken, rule R141; `crc` and `tx_buf` are not touched. -/
def Block.arm (b : Block) : Block :=
  { b with
    rxBuf := [], pl := [], decResult := .none, missingEsc := false, crcErr := false, unpOutcome := .none,
    value := .zero, decState := .acc }

/-- `DEC.ARM`, rule R141. -/
def execDecArm (s : State) : Out := hostOp false (fun s => s.onBlock Block.arm) s

/-- Overflow of `rx_buf`, rule R153: the byte is dropped and the receive discarded. -/
def Block.overflow (b : Block) : Block := Block.raise .rxOvf { b with rxBuf := [], decState := .idle }

/-- RX.BYTE of class RX.RESYNC, rule R144. -/
def Block.rxResync (b : Block) : Block := { b with rxBuf := [Config.resync] }

/-- RX.BYTE of class RX.DATA, rule R145. -/
def Block.rxData (v : Byte) (ps : Params) (b : Block) : Block :=
  if full b.rxBuf.length ps.rxBufMax then b.overflow else { b with rxBuf := b.rxBuf ++ [v] }

/-- RX.BYTE of class RX.TERM, rule R146: un-escape, validate, strip, all in this step. -/
def Block.rxTerm (ps : Params) (b : Block) : Block :=
  if full b.rxBuf.length ps.rxBufMax then b.overflow
  else
    let r := unescape (b.rxBuf ++ [Config.term])
    let crc := crc16 r.1
    { b with
      crc := crc, missingEsc := r.2, crcErr := crcErrOf crc, pl := stripCrc r.1, decResult := .frame, rxBuf := [],
      decState := .idle }

/-- RX.TIMEOUT, rule R152. -/
def Block.rxTimeout (b : Block) : Block := { b with rxBuf := [], decResult := .noFrame, decState := .idle }

/-- `RX.BYTE 0x40`, rule R144. -/
def execRxResync (s : State) : Out := rxOp (.byte Config.resync) (fun _ b => b.rxResync) s

/-- `RX.BYTE 0x0D`, rule R146. -/
def execRxTerm (s : State) : Out := rxOp (.byte Config.term) Block.rxTerm s

/-- `RX.BYTE b` for every other byte, rule R145. -/
def execRxData (b : Byte) (s : State) : Out := rxOp (.byte b) (Block.rxData b) s

/-- `RX.TIMEOUT`, rule R152. -/
def execRxTimeout (s : State) : Out := rxOp .timeout (fun _ b => b.rxTimeout) s

/-- `RX.BYTE b`, rule R143: one of three by the class of `b` (rule R75). -/
def rxByte (b : Byte) (s : State) : Out :=
  if b == Config.resync then execRxResync s else if b == Config.term then execRxTerm s else execRxData b s

/-- One received symbol, rules R143 and R152. -/
def rxSymbol (x : Symbol) (s : State) : Out :=
  match x with
  | .byte b => rxByte b s
  | .timeout => execRxTimeout s

/-- The transport delivers these symbols one after another (`RX b0 b1 ... bk`, rule R96) for as long as the block pulls;
from the first one it does not pull they stay with the transport, in order (rules R142, R161). -/
def receive : List Symbol → State → Out
  | [], s => .next s
  | x :: xs, s =>
    if s.blk.pulling then andThen (rxSymbol x s) (receive xs) else .next (s.keepSymbols (x :: xs))

/-- A wire-scan row's effect on `u` and `me`, rule R147. -/
def State.scanned (v : Byte) (me : Bool) (s : State) : State :=
  { s with work := { s.work with u := s.work.u ++ [v], me := s.work.me || me } }

/-- `SCAN.PAIR`, rules R76, R147 and R148: the output byte is the second byte XOR 0xFF. -/
def execScanPair (x : Byte) (s : State) : Out :=
  .next (s.scanned (x ^^^ Config.escXor) (missingEscape (x ^^^ Config.escXor)))

/-- `SCAN.LIT`, rules R76 and R147. -/
def execScanLit (x : Byte) (s : State) : Out := .next (s.scanned x false)

end Sys2Proof.Machine
end

