-- ==== Sys2Proof/Machine/Encoder.lean ====
section
/-! DEFINITION. The frame encoder, 41_encoder.md: ENC.PUSH and ENC.SEND (rules R124, R125), the wire-tx rows run by
themselves (rules R74, R121), FRAME (rule R123 through R96's ENC.FRAME) and REQ.READ (rule R224). -/

namespace Sys2Proof.Machine

/-- `ENC.PUSH B`, rule R124: rejected also when the staging buffer is full. -/
def execEncPush (v : Byte) (s : State) : Out :=
  hostOp (full s.blk.txBuf.length s.params.txBufMax)
    (fun s => s.onBlock fun b => { b with txBuf := b.txBuf ++ [v] }) s

/-- What ENC.SEND does when it is taken, rule R125: the CRC over the staged payload, the frame, one write, the buffer
emptied, and `TX_FAIL` on a failed write. -/
def sendFrame (p : Byte) (s : State) : State :=
  let crc := crc16 (s.blk.txBuf ++ [0x00#8, 0x00#8])
  let frame := [p] ++ stuff (s.blk.txBuf ++ be16 crc) ++ [Config.term]
  { s with
    env := s.env.txWrite frame
    blk := { s.blk with crc := crc, txBuf := [] }.afterWrite s.env.nextTxAnswer }

/-- `ENC.SEND P`, rule R125. -/
def execEncSend (p : Byte) (s : State) : Out := hostOp false (sendFrame p) s

/-- ENC.PUSH for each byte in turn, as rule R96 expands ENC.FRAME. -/
def pushAll : List Byte → State → Out
  | [], s => .next s
  | v :: vs, s => andThen (execEncPush v s) (pushAll vs)

/-- `FRAME`: the frame of rule R123 built and handed to the transport, as the pseudo-operation ENC.FRAME of rule R96:
ENC.PUSH for each payload byte, then ENC.SEND with the prefix byte (log entry 12; bytes already staged, log entry 26). -/
def execFrame (p : Byte) (m : List Byte) (s : State) : Out := andThen (pushAll m s) (execEncSend p)

/-- `REQ.READ`, rule R224: the host builds the request payload and pushes it (log entry 12; bytes already
staged, log entry 26). -/
def execReqRead (id : Word) (s : State) : Out := pushAll (requestPayload id) s

/-- Bytes a wire-tx row puts out, rule R74. -/
def State.emit (bs : List Byte) (s : State) : State := { s with work := { s.work with out := s.work.out ++ bs } }

/-- `TX.ESC.06`, rules R74 and R121. -/
def execTxEsc06 (s : State) : Out := .next (s.emit (escPair 0x06#8))

/-- `TX.ESC.0D`, rules R74 and R121. -/
def execTxEsc0D (s : State) : Out := .next (s.emit (escPair 0x0D#8))

/-- `TX.ESC.1B`, rules R74 and R121. -/
def execTxEsc1B (s : State) : Out := .next (s.emit (escPair 0x1B#8))

/-- `TX.ESC.40`, rules R74 and R121. -/
def execTxEsc40 (s : State) : Out := .next (s.emit (escPair 0x40#8))

/-- `TX.ESC.80`, rules R74 and R121. -/
def execTxEsc80 (s : State) : Out := .next (s.emit (escPair 0x80#8))

/-- `TX.LIT`, rules R74 and R121. -/
def execTxLit (b : Byte) (s : State) : Out := .next (s.emit [b])

end Sys2Proof.Machine
end

