-- ==== Sys2Proof/Machine/System.lean ====
section
/-! DEFINITION. The reserved command codes (rule R93) and the RESET pin (rules R240, R241). -/

namespace Sys2Proof.Machine

/-- A reserved command code, rule R93: always rejected, no state changes. -/
def rejectWord (s : State) : Out := .next (s.answer .rejected)

/-- Command code 0x0, rule R93. -/
def execReserved0 (s : State) : Out := rejectWord s

/-- Command code 0x8, rule R93. -/
def execReserved8 (s : State) : Out := rejectWord s

/-- Command code 0x9, rule R93. -/
def execReserved9 (s : State) : Out := rejectWord s

/-- Command code 0xA, rule R93. -/
def execReservedA (s : State) : Out := rejectWord s

/-- Command code 0xB, rule R93. -/
def execReservedB (s : State) : Out := rejectWord s

/-- Command code 0xC, rule R93. -/
def execReservedC (s : State) : Out := rejectWord s

/-- Command code 0xD, rule R93. -/
def execReservedD (s : State) : Out := rejectWord s

/-- Command code 0xE, rule R93. -/
def execReservedE (s : State) : Out := rejectWord s

/-- Command code 0xF, rule R93. -/
def execReservedF (s : State) : Out := rejectWord s

/-- `RESET`, rules R240 and R241: every component of the block to its reset value, whatever it was; never rejected. What
was handed to the transport stays handed, and what the transport holds stays there. -/
def execReset (s : State) : Out := .next { s with blk := .reset, work := .empty }

end Sys2Proof.Machine
end

