-- ==== Sys2Proof/Machine/Unpacker.lean ====
section
/-! DEFINITION. The unpacker, 43_unpacker.md: UNP.DECODE (rule R171), the two reply rows (rules R176, R177) and the
exponent-control byte run by itself (rules R178, R179); the value and its label (rules R36, R183, R185). -/

namespace Sys2Proof.Machine

/-- What UNP.DECODE does when it is taken, rule R171: the outcome, and the fields or zero. -/
def Block.unpacked (b : Block) : Block :=
  { b with unpOutcome := (unpack b.decResult b.pl).1, value := (unpack b.decResult b.pl).2 }

/-- `UNP.DECODE`, rule R171: rejected also when no receive has finished. -/
def execUnpDecode (s : State) : Out :=
  hostOp (s.blk.decResult == .none) (fun s => s.onBlock Block.unpacked) s

/-- A reply with this payload comes in and is unpacked, the end of rule R96's READ_REGISTER: DEC.ARM, the bytes of the
frame with 0x40 in the prefix position (rules R78, R176), UNP.DECODE (log entry 12). -/
def replyRun (payload : List Byte) (s : State) : Out :=
  andThen (andThen (execDecArm s) (receive ((encodeFrame Config.resync payload).map .byte))) execUnpDecode

/-- `REPLY.EMPTY`, rule R176: on the wire `40 3F 10 07 9A 0D`. -/
def execReplyEmpty (s : State) : Out := replyRun emptyPayload s

/-- `REPLY.VALUE`, rules R85 and R177. -/
def execReplyValue (reg : Word) (unit ctl : Byte) (mant tail : List Byte) (s : State) : Out :=
  replyRun (valuePayload reg unit ctl mant tail) s

/-- `EXP_CTRL`, rules R87, R178 and R179: the sign and the exponent the byte stands for. -/
def execExpCtrl (c : Byte) (s : State) : Out :=
  .next { s with work := { s.work with expCtrl := c, sign := signOf c, exp := expOf c } }

/-- The exact rational number of rules R36 and R185: `(-1)^sign * mant * 10^exp`. -/
def ValueFields.rational (v : ValueFields) : Rat :=
  let m : Int := if v.sign then -(v.mant : Int) else (v.mant : Int)
  if 0 ≤ v.exp then ((m * 10 ^ v.exp.toNat : Int) : Rat) else mkRat m (10 ^ (-v.exp).toNat)

/-- The label, rules R12 and R183: absent for an unknown unit, `kWh` for code 2, else what the open table gives. -/
def unitLabel (u : Byte) : Option String :=
  if unitKnownOf u then (if u.toNat = 2 then some "kWh" else Config.unitText u.toNat) else none

/-- The source's "Decoded Value", rule R36: the number and the label, when the outcome is `VALUE`. -/
def Block.decodedValue (b : Block) : Option (Rat × Option String) :=
  if b.unpOutcome = .value then some (b.value.rational, unitLabel b.value.unit) else none

end Sys2Proof.Machine
end

