-- ==== Sys2Proof/Machine/Dispatch.lean ====
section
/-! DEFINITION. One arm per constructor of Instr. -/

namespace Sys2Proof.Machine

def exec (i : Instr) (s : State) : Host.Outcome State Fault Refusal :=
  match i with
  -- command words
  | .crcClr => Sys2Proof.Machine.execCrcClr s
  | .crcBit b => Sys2Proof.Machine.execCrcBit b s
  | .crcByte v => Sys2Proof.Machine.execCrcByte v s
  | .encPush v => Sys2Proof.Machine.execEncPush v s
  | .encSend p => Sys2Proof.Machine.execEncSend p s
  | .decArm => Sys2Proof.Machine.execDecArm s
  | .unpDecode => Sys2Proof.Machine.execUnpDecode s
  | .reserved0 => Sys2Proof.Machine.execReserved0 s
  | .reserved8 => Sys2Proof.Machine.execReserved8 s
  | .reserved9 => Sys2Proof.Machine.execReserved9 s
  | .reservedA => Sys2Proof.Machine.execReservedA s
  | .reservedB => Sys2Proof.Machine.execReservedB s
  | .reservedC => Sys2Proof.Machine.execReservedC s
  | .reservedD => Sys2Proof.Machine.execReservedD s
  | .reservedE => Sys2Proof.Machine.execReservedE s
  | .reservedF => Sys2Proof.Machine.execReservedF s
  -- received symbols and the pin
  | .rxResync => Sys2Proof.Machine.execRxResync s
  | .rxTerm => Sys2Proof.Machine.execRxTerm s
  | .rxData b => Sys2Proof.Machine.execRxData b s
  | .rxTimeout => Sys2Proof.Machine.execRxTimeout s
  | .reset => Sys2Proof.Machine.execReset s
  -- rows of the wire and payload formats
  | .txEsc06 => Sys2Proof.Machine.execTxEsc06 s
  | .txEsc0D => Sys2Proof.Machine.execTxEsc0D s
  | .txEsc1B => Sys2Proof.Machine.execTxEsc1B s
  | .txEsc40 => Sys2Proof.Machine.execTxEsc40 s
  | .txEsc80 => Sys2Proof.Machine.execTxEsc80 s
  | .txLit b => Sys2Proof.Machine.execTxLit b s
  | .scanPair x => Sys2Proof.Machine.execScanPair x s
  | .scanLit x => Sys2Proof.Machine.execScanLit x s
  | .frame p m => Sys2Proof.Machine.execFrame p m s
  | .reqRead id => Sys2Proof.Machine.execReqRead id s
  | .replyEmpty => Sys2Proof.Machine.execReplyEmpty s
  | .replyValue reg unit ctl mant tail => Sys2Proof.Machine.execReplyValue reg unit ctl mant tail s
  | .expCtrl c => Sys2Proof.Machine.execExpCtrl c s

end Sys2Proof.Machine
end

