-- ==== Sys2Proof/WellFormed.lean ====
section
/-! DEFINITION. Which instructions are well formed: the operand values the rows of spec/opcode_table.json admit. -/

namespace Sys2Proof

open Machine

/-- `RX.DATA` has 254 values (rule R75), `TX.LIT` 251 (rule R74), `SCAN.LIT` 255 (rule R76), and a reply's mantissa length
is one byte (rules R9, R85). Every other operand takes every value of its type. -/
def Instr.wf : Instr → Bool
  | .rxData b => b != Config.resync && b != Config.term
  | .txLit b => !inEscSet b
  | .scanLit x => x != Config.escMark
  | .replyValue _ _ _ mant _ => decide (mant.length ≤ 255)
  | .crcClr | .crcBit _ | .crcByte _ | .encPush _ | .encSend _ | .decArm | .unpDecode => true
  | .reserved0 | .reserved8 | .reserved9 | .reservedA | .reservedB | .reservedC | .reservedD | .reservedE
  | .reservedF => true
  | .rxResync | .rxTerm | .rxTimeout | .reset => true
  | .txEsc06 | .txEsc0D | .txEsc1B | .txEsc40 | .txEsc80 | .scanPair _ => true
  | .frame _ _ | .reqRead _ | .replyEmpty | .expCtrl _ => true

end Sys2Proof
end

