-- ==== Sys2Proof/Decode.lean ====
section
/-! DEFINITION. The decoder, total on every command word, received symbol and item, rejecting by name, and after it the
encoder, written from the same tables (rules R71 to R97). -/

namespace Sys2Proof

open Machine

/-- The command word, rules R92 and R93: `op = word[11:8]`, `arg = word[7:0]`. All sixteen codes have a row; the bits
of `arg` that a row does not name are ignored. -/
def decodeCmd (w : CmdWord) : Instr :=
  let op := w.extractLsb' 8 4
  let arg := w.extractLsb' 0 8
  if op == 0x1#4 then .crcClr
  else if op == 0x2#4 then .crcBit (arg.getLsbD 0)
  else if op == 0x3#4 then .crcByte arg
  else if op == 0x4#4 then .encPush arg
  else if op == 0x5#4 then .encSend arg
  else if op == 0x6#4 then .decArm
  else if op == 0x7#4 then .unpDecode
  else if op == 0x0#4 then .reserved0
  else if op == 0x8#4 then .reserved8
  else if op == 0x9#4 then .reserved9
  else if op == 0xA#4 then .reservedA
  else if op == 0xB#4 then .reservedB
  else if op == 0xC#4 then .reservedC
  else if op == 0xD#4 then .reservedD
  else if op == 0xE#4 then .reservedE
  else .reservedF

/-- The class of a received byte, rule R75. -/
def decodeRx (b : Byte) : Instr :=
  if b == Config.resync then .rxResync else if b == Config.term then .rxTerm else .rxData b

/-- The class in which the encoder sends a byte, rule R74. -/
def decodeTx (b : Byte) : Instr :=
  if b == 0x06#8 then .txEsc06
  else if b == 0x0D#8 then .txEsc0D
  else if b == 0x1B#8 then .txEsc1B
  else if b == 0x40#8 then .txEsc40
  else if b == 0x80#8 then .txEsc80
  else .txLit b

/-- One item of the un-escape scan, rule R76. -/
def decodeScan : List Byte → Except DecodeError Instr
  | [x] => if x == Config.escMark then .error .scanItem else .ok (.scanLit x)
  | [m, x] => if m == Config.escMark then .ok (.scanPair x) else .error .scanItem
  | _ => .error .scanItem

/-- Splits the bytes of a frame after its prefix into the body and whether the last byte is the terminator. -/
def splitTerm : List Byte → Option (List Byte)
  | [] => none
  | [t] => if t == Config.term then some [] else none
  | b :: c :: rest => (splitTerm (c :: rest)).map (b :: ·)

/-- A whole frame, rules R71 and R123, read strictly: the payload and prefix byte whose encoding it is. -/
def decodeFrame : List Byte → Except DecodeError Instr
  | [] => .error .frameEnds
  | p :: rest =>
    match splitTerm rest with
    | none => .error .frameEnds
    | some body =>
      match unstuff body with
      | none => .error .frameStuffing
      | some u =>
        if u.drop (u.length - 2) == be16 (fcs (stripCrc u)) then .ok (.frame p (stripCrc u))
        else .error .frameCrc

/-- A reply of at least 7 bytes, rules R85 and R86, from its byte 2 on. -/
def decodeReply (rh rl unit len ctl : Byte) (rest : List Byte) : Except DecodeError Instr :=
  if len.toNat ≤ rest.length then
    .ok (.replyValue (rh ++ rl) unit ctl (rest.take len.toNat) (rest.drop len.toNat))
  else .error .payloadShort

/-- An item of format `payload`: one byte is an exponent-control byte (rule R87), two a header-only reply (rule R86), five
a request (rule R83), seven or more a reply with a value (rules R85, R86). -/
def decodePayload : List Byte → Except DecodeError Instr
  | [c] => .ok (.expCtrl c)
  | [h0, h1] => if h0 == Config.hdr0 && h1 == Config.hdr1 then .ok .replyEmpty else .error .payloadHeader
  | [h0, h1, n, ih, il] =>
    if h0 == Config.hdr0 && h1 == Config.hdr1 && n == Config.reqCount then .ok (.reqRead (ih ++ il))
    else .error .payloadHeader
  | h0 :: h1 :: rh :: rl :: unit :: len :: ctl :: rest =>
    if h0 == Config.hdr0 && h1 == Config.hdr1 then decodeReply rh rl unit len ctl rest
    else .error .payloadHeader
  | _ => .error .payloadLength

/-- The decoder: what stands before the block, by the format it stands in (rule R70). -/
def decode : Port → Except DecodeError Instr
  | .host (.word w) => .ok (decodeCmd w)
  | .host .resetPin => .ok .reset
  | .host (.item .wireTx [b]) => .ok (decodeTx b)
  | .host (.item .wireTx _) => .error .txItemLength
  | .host (.item .wireScan bs) => decodeScan bs
  | .host (.item .frame bs) => decodeFrame bs
  | .host (.item .payload bs) => decodePayload bs
  | .line (.byte b) => .ok (decodeRx b)
  | .line .timeout => .ok .rxTimeout

/-- A command word from its two fields, rule R92. -/
def cmdWord (op : BitVec 4) (arg : Byte) : CmdWord := op ++ arg

/-- The encoder: the words of an instruction, from the same tables; ignored bits of a command word are 0. -/
def encode : Instr → Port
  | .crcClr => .host (.word (cmdWord 0x1#4 0x00#8))
  | .crcBit b => .host (.word (cmdWord 0x2#4 (BitVec.setWidth 8 (BitVec.ofBool b))))
  | .crcByte v => .host (.word (cmdWord 0x3#4 v))
  | .encPush v => .host (.word (cmdWord 0x4#4 v))
  | .encSend p => .host (.word (cmdWord 0x5#4 p))
  | .decArm => .host (.word (cmdWord 0x6#4 0x00#8))
  | .unpDecode => .host (.word (cmdWord 0x7#4 0x00#8))
  | .reserved0 => .host (.word (cmdWord 0x0#4 0x00#8))
  | .reserved8 => .host (.word (cmdWord 0x8#4 0x00#8))
  | .reserved9 => .host (.word (cmdWord 0x9#4 0x00#8))
  | .reservedA => .host (.word (cmdWord 0xA#4 0x00#8))
  | .reservedB => .host (.word (cmdWord 0xB#4 0x00#8))
  | .reservedC => .host (.word (cmdWord 0xC#4 0x00#8))
  | .reservedD => .host (.word (cmdWord 0xD#4 0x00#8))
  | .reservedE => .host (.word (cmdWord 0xE#4 0x00#8))
  | .reservedF => .host (.word (cmdWord 0xF#4 0x00#8))
  | .rxResync => .line (.byte Config.resync)
  | .rxTerm => .line (.byte Config.term)
  | .rxData b => .line (.byte b)
  | .rxTimeout => .line .timeout
  | .reset => .host .resetPin
  | .txEsc06 => .host (.item .wireTx [0x06#8])
  | .txEsc0D => .host (.item .wireTx [0x0D#8])
  | .txEsc1B => .host (.item .wireTx [0x1B#8])
  | .txEsc40 => .host (.item .wireTx [0x40#8])
  | .txEsc80 => .host (.item .wireTx [0x80#8])
  | .txLit b => .host (.item .wireTx [b])
  | .scanPair x => .host (.item .wireScan [Config.escMark, x])
  | .scanLit x => .host (.item .wireScan [x])
  | .frame p m => .host (.item .frame (encodeFrame p m))
  | .reqRead id => .host (.item .payload (requestPayload id))
  | .replyEmpty => .host (.item .payload emptyPayload)
  | .replyValue reg unit ctl mant tail => .host (.item .payload (valuePayload reg unit ctl mant tail))
  | .expCtrl c => .host (.item .payload [c])

/-- The scan items of what follows a buffer's prefix byte, terminator still on (rules R76, R147): the instructions whose
effects, one after another, are the un-escape of the buffer. -/
def scanItems : List Byte → List Instr
  | [] => []
  | [_] => []
  | b :: c :: rest =>
    if b == Config.escMark then .scanPair c :: scanItems rest else .scanLit b :: scanItems (c :: rest)

/-- The port at which a word of spec/opcode_table.json stands. The table's rows share byte values between formats and the
word does not say its format, so this function fixes one reading (log entry 13): one byte is the RX row that names it,
else the TX.ESC row that names it, else RX.DATA; two bytes are a command word when they fit 12 bits, a scan pair when
the first byte is the marker, else a payload; longer ones are a payload when they begin with the header, else a frame. -/
def tablePort (nbits w : Nat) : Option Port :=
  if nbits == 0 then none
  else if nbits ≤ 8 then
    let b := BitVec.ofNat 8 w
    if b == Config.resync || b == Config.term || !inEscSet b then some (.line (.byte b))
    else some (.host (.item .wireTx [b]))
  else if nbits ≤ 16 then
    if w < 0x1000 then some (.host (.word (BitVec.ofNat 12 w)))
    else if BitVec.ofNat 8 (w / 256) == Config.escMark then some (.host (.item .wireScan (bytesBE 2 w)))
    else some (.host (.item .payload (bytesBE 2 w)))
  else
    let bs := bytesBE (nbits / 8) w
    if byteAt bs 0 == Config.hdr0 && byteAt bs 1 == Config.hdr1 then some (.host (.item .payload bs))
    else some (.host (.item .frame bs))

/-- The instruction the decoder reads from a word of the table, `none` where it refuses. -/
def decodeTableWord (nbits w : Nat) : Option Instr :=
  match tablePort nbits w with
  | none => none
  | some p =>
    match decode p with
    | .ok i => some i
    | .error _ => none

end Sys2Proof
end

