-- ==== Sys2Proof/Machine/Fetch.lean ====
section
/-! DEFINITION. What stands before the block: whose turn it is (rule R211), the host's next operation, the transport's
next symbol (rules R142, R230), and placing an encoded instruction there. -/

namespace Sys2Proof.Machine

/-- Whose turn it is: as the state lists, else by rule R211: the transport's while the block pulls, else the host's. -/
def State.turn (s : State) : Agent :=
  match s.env.turns with
  | a :: _ => a
  | [] => if s.blk.pulling then .transport else .host

/-- The turn is taken. -/
def State.takeTurn (s : State) : State := { s with env := { s.env with turns := s.env.turns.tail } }

/-- The host's operations still to be issued. -/
def State.withOps (xs : List HostInput) (s : State) : State := { s with env := { s.env with ops := xs } }

/-- The symbols still to be delivered. -/
def State.withSyms (xs : List Symbol) (s : State) : State := { s with env := { s.env with syms := xs } }

/-- The host's turn: its next operation, if it has one to issue. -/
def fetchHost (s : State) : Fetched :=
  match s.env.ops with
  | [] => .idle s.takeTurn
  | x :: rest => .got (.host x) (s.takeTurn.withOps rest)

/-- The transport's turn, rules R142, R230 and R257: its next symbol if the block pulls, and nothing otherwise; a pull that
it does not answer leaves no step. -/
def fetchLine (s : State) : Fetched :=
  if s.blk.pulling then
    match s.env.syms with
    | [] => .silent
    | x :: rest => .got (.line x) (s.takeTurn.withSyms rest)
  else .idle s.takeTurn

/-- What stands before the block. -/
def fetch (s : State) : Fetched :=
  match s.turn with
  | .host => fetchHost s
  | .transport => fetchLine s

/-- An encoded instruction placed so that the next step takes it: first in its agent's list, with that agent's turn first.
A symbol is taken only when the block pulls (rule R142), so for a symbol the receive is open and no fault stands (log
entry 14). -/
def State.place (p : Port) (s : State) : State :=
  match p with
  | .host x => { s with env := { s.env with ops := x :: s.env.ops, turns := .host :: s.env.turns } }
  | .line x =>
    { s with
      env := { s.env with syms := x :: s.env.syms, turns := .transport :: s.env.turns }
      blk := { s.blk with decState := .acc, txFail := false, rxOvf := false } }

end Sys2Proof.Machine
end

