-- ==== Sys2Proof/Machine/Step.lean ====
section
/-! DEFINITION. One step: what stands before the block is decoded and run (rules R16, R21, R95). -/

namespace Sys2Proof.Machine

/-- One step, rule R16: one operation, or one received symbol. With nothing issued the block waits (log entry 3); a pull
without an answer leaves no step (rule R257). -/
def step (s : State) : Host.Outcome State Fault Refusal :=
  match fetch s with
  | .idle s' => .next s'
  | .silent => .fault .transportSilent
  | .got p s' =>
    match decode p with
    | .ok i => exec i s'
    | .error why => .refused (.notAnEncoding why)

/-- The state with a word of the opcode table placed where the next step takes it; unchanged where the table reading has
no port for it. -/
def State.withFetchWord (s : State) (nbits w : Nat) : State :=
  match tablePort nbits w with
  | none => s
  | some p => s.place p

end Sys2Proof.Machine
end

