-- ==== Sys2Proof/Machine/Pseudo.lean ====
section
/-! DEFINITION. The pseudo-operations of rule R96 as lists of instructions, and running such a list. -/

namespace Sys2Proof.Machine

/-- A list of instructions run one after another (rules R95, R96). -/
def execAll : List Instr → State → Out
  | [], s => .next s
  | i :: is, s => andThen (exec i s) (execAll is)

/-- `CRC16 [b0, ..., bk]`, rule R96. -/
def crc16Ops (m : List Byte) : List Instr := .crcClr :: m.map .crcByte

/-- `CRC.BYTE B` as its eight CRC.BIT operations, rules R96 and R103. -/
def crcByteOps (v : Byte) : List Instr := (bitsOf v).map .crcBit

/-- `ENC.FRAME P, [b0, ..., bk]`, rule R96, which takes `tx_buf` as empty; with bytes already staged the pushes follow them
(DESIGN CHOICE, log entry 26). -/
def encFrameOps (p : Byte) (m : List Byte) : List Instr := m.map .encPush ++ [.encSend p]

/-- `DEC.FRAME`, rule R96, with the symbols the transport delivers. When they run out first the receive is left open, in
`DEC_ACC` (rule R160). -/
def decFrame (xs : List Symbol) (s : State) : Out := andThen (exec .decArm s) (receive xs)

/-- `READ_REGISTER id`, rules R96 and R223, with the symbols the transport delivers: the request framed and sent, the reply
received, the result unpacked. DESIGN CHOICE (log entry 26): the expansion ends DEC.FRAME in `DEC_IDLE` and gives no case for
symbols that run out with the receive still open; the model then issues UNP.DECODE all the same, and it is rejected
(rule R209). It goes on likewise after a failed write, where every later operation is rejected (rule R205). -/
def readRegister (id : Word) (xs : List Symbol) (s : State) : Out :=
  andThen (andThen (execAll (encFrameOps Config.prefixReq (requestPayload id)) s) (decFrame xs)) (exec .unpDecode)

end Sys2Proof.Machine
end

