-- ==== Sys2Proof/Machine/Reference.lean ====
section
/-! DEFINITION. Loops the spec gives as pseudocode, read to the letter, for statements that compare the model's own
functions with them: the un-escape loop (rule R147) and the whole receive (rule R160). -/

namespace Sys2Proof.Machine

/-- The `while` loop of rule R147 with its index; `fuel` bounds the number of rounds (each advances `i`). -/
def unescapeLoop (buf : List Byte) : Nat → Nat → List Byte → Bool → List Byte × Bool
  | 0, _, u, me => (u, me)
  | fuel + 1, i, u, me =>
    if i < buf.length - 1 then
      if byteAt buf i == 0x1B#8 then
        let v := byteAt buf (i + 1) ^^^ 0xFF#8
        unescapeLoop buf fuel (i + 2) (u ++ [v]) (me || !inEscSet v)
      else unescapeLoop buf fuel (i + 1) (u ++ [byteAt buf i]) me
    else (u, me)

/-- How a receive ends, rule R160: with a frame, without one, with an overflow, or not yet (`open` holds the buffer). -/
inductive Received where
  | frame (pl : List Byte) (me : Bool) (residue : Word)
  | noFrame
  | overflow
  | pending (buf : List Byte)
  deriving DecidableEq, Repr

/-- The whole receive of rule R160 over the symbols delivered after arming, from a buffer, with the capacity of rule R153;
the list answered is the symbols not consumed. -/
def decodeSyms (cap : Option Nat) : List Byte → List Symbol → Received × List Symbol
  | buf, [] => (.pending buf, [])
  | _, .timeout :: rest => (.noFrame, rest)
  | buf, .byte b :: rest =>
    if b = 0x40#8 then decodeSyms cap [0x40#8] rest
    else if cap = some buf.length then (.overflow, rest)
    else if b = 0x0D#8 then
      let r := unescape (buf ++ [0x0D#8])
      (.frame (stripCrc r.1) r.2 (crc16 r.1), rest)
    else decodeSyms cap (buf ++ [b]) rest

end Sys2Proof.Machine
end

