-- ==== Sys2Proof/Machine/StatusPort.lean ====
section
/-! DEFINITION. The status port, 10_state.md rule R40: thirteen read-only registers; a read has no side effect. -/

namespace Sys2Proof.Machine

/-- The registers of the status port, rule R40; three of them and the mantissa's take an index the host supplies. -/
inductive StatusReg where
  | crc
  | status
  | txLen
  | plLen
  | plByte (i : Nat)
  | regEcho
  | unit
  | mantLen
  | exp
  | mantByte (k : Nat)
  | rxLen
  | rxByte (i : Nat)
  | txByte (i : Nat)
  deriving DecidableEq, Repr

/-- The register numbers of rule R40. -/
def StatusReg.number : StatusReg → Nat
  | .crc => 0
  | .status => 1
  | .txLen => 2
  | .plLen => 3
  | .plByte _ => 4
  | .regEcho => 5
  | .unit => 6
  | .mantLen => 7
  | .exp => 8
  | .mantByte _ => 9
  | .rxLen => 10
  | .rxByte _ => 11
  | .txByte _ => 12

/-- The code of `dec_result`, rule R31. -/
def DecResult.code : DecResult → BitVec 2
  | .none => 0#2
  | .noFrame => 1#2
  | .frame => 2#2

/-- The code of `unp_outcome`, rule R34. -/
def UnpOutcome.code : UnpOutcome → BitVec 3
  | .none => 0#3
  | .noResponse => 1#3
  | .badHeader => 2#3
  | .emptyReply => 3#3
  | .malformed => 4#3
  | .value => 5#3

/-- `STATUS`, rule R40, bit 15 first: six reserved bits, `RX_OVF`, `TX_FAIL`, outcome code, `CRC_ERR`, `MISSING_ESC`, result
code, `DEC_BUSY`. -/
def Block.statusWord (b : Block) : Word :=
  0#6 ++ BitVec.ofBool b.rxOvf ++ BitVec.ofBool b.txFail ++ b.unpOutcome.code ++ BitVec.ofBool b.crcErr
    ++ BitVec.ofBool b.missingEsc ++ b.decResult.code ++ BitVec.ofBool b.receiving

/-- `UNIT`, rule R40: bit 8 `unit_known`, bits 7 to 0 `unit`. -/
def ValueFields.unitWord (v : ValueFields) : BitVec 9 := BitVec.ofBool v.unitKnown ++ v.unit

/-- `EXP`, rule R40: magnitude, exponent sign, sign, `exp_ctrl`, from bit 15 down. -/
def ValueFields.expWord (v : ValueFields) : Word :=
  v.expCtrl.extractLsb' 0 6 ++ BitVec.ofBool (expNegative v.expCtrl) ++ BitVec.ofBool v.sign ++ v.expCtrl

/-- `MANT_BYTE(k)`, rule R40. -/
def Block.mantByte (b : Block) (k : Nat) : Byte :=
  if b.unpOutcome = .value ∧ k < b.value.mantLen.toNat then byteAt b.pl (7 + k) else 0#8

/-- A read of the status port, rule R40. -/
def Block.readStatus (b : Block) : StatusReg → Nat
  | .crc => b.crc.toNat
  | .status => b.statusWord.toNat
  | .txLen => b.txBuf.length
  | .plLen => b.pl.length
  | .plByte i => (byteAt b.pl i).toNat
  | .regEcho => b.value.regEcho.toNat
  | .unit => b.value.unitWord.toNat
  | .mantLen => b.value.mantLen.toNat
  | .exp => b.value.expWord.toNat
  | .mantByte k => (b.mantByte k).toNat
  | .rxLen => b.rxBuf.length
  | .rxByte i => (byteAt b.rxBuf i).toNat
  | .txByte i => (byteAt b.txBuf i).toNat

end Sys2Proof.Machine
end

