-- ==== Sys2Proof/Safety.lean ====
section
/-! DEFINITION. What counts as a safe run: the relations the state keeps (rule R37 and its neighbours), a good state and a
good end (rules R205, R259). -/

namespace Sys2Proof.Machine

/-- The relations of rule R37, (a) to (g), with those other rules state beside them. -/
structure Block.Inv (ps : Params) (b : Block) : Prop where
  /-- Rule R37 (a). -/
  idleEmpty : b.decState = .idle → b.rxBuf = []
  /-- Rule R37 (b). -/
  noFrameClear : b.decResult ≠ .frame → b.pl = [] ∧ b.missingEsc = false ∧ b.crcErr = false
  /-- Rule R37 (c). -/
  accFresh : b.decState = .acc → b.decResult = .none ∧ b.unpOutcome = .none
  /-- Rule R37 (d). -/
  noValueZero : b.unpOutcome ≠ .value → b.value = .zero
  /-- Rule R37 (e), first half. -/
  noResponseNoFrame : b.unpOutcome = .noResponse → b.decResult = .noFrame
  /-- Rule R37 (e), second half. -/
  outcomeFrame : b.unpOutcome = .badHeader ∨ b.unpOutcome = .emptyReply ∨ b.unpOutcome = .malformed ∨
    b.unpOutcome = .value → b.decResult = .frame
  /-- Rule R37 (f), 0x40 at index 0 or nowhere. -/
  resyncFirst : Config.resync ∉ b.rxBuf.tail
  /-- Rule R37 (f), 0x0D nowhere. -/
  noTerm : Config.term ∉ b.rxBuf
  /-- Rule R37 (g). -/
  ovfIdle : b.rxOvf = true → b.decState = .idle
  /-- Rule R209: "In `DEC_ACC`, `fault = 0` always". -/
  accFaultless : b.decState = .acc → b.faulted = false
  /-- Rules R20 and R24: `tx_buf` has length 0 to `TX_BUF_MAX`. -/
  txFits : ∀ n, ps.txBufMax = some n → b.txBuf.length ≤ n
  /-- Rules R20 and R26: `rx_buf` has length 0 to `RX_BUF_MAX`. -/
  rxFits : ∀ n, ps.rxBufMax = some n → b.rxBuf.length ≤ n
  /-- Rule R50: `pl` holds at most `RX_BUF_MAX - 4` bytes. -/
  plFits : ∀ n, ps.rxBufMax = some n → b.pl.length ≤ n - 4
  /-- Rules R171 and R214: an outcome and its fields are what `unpack` gives of the result and the payload still there. -/
  outcomeOfPayload : b.unpOutcome ≠ .none → (b.unpOutcome, b.value) = unpack b.decResult b.pl

/-- The invariant of the machine: legal parameters (rules R7, R8) and the block's relations. -/
def State.Inv (s : State) : Prop := s.params.legal = true ∧ s.blk.Inv s.params

/-- A state that has not gone wrong, rule R205. -/
def State.good (s : State) : Prop := s.blk.faulted = false

/-- The block takes host operations, rule R209: no fault and no receive in progress. -/
def State.ready (s : State) : Prop := s.blk.faulted = false ∧ s.blk.decState = .idle

/-- The block takes received symbols, rule R142: a receive in progress and no fault. -/
def State.listening (s : State) : Prop := s.blk.decState = .acc ∧ s.blk.faulted = false

/-- A run has ended well, rule R259: its operations and symbols are used up, `fault = 0`, `dec_state = DEC_IDLE`, and no
operation in it was rejected. -/
def State.endedWell (s : State) : Prop :=
  s.env.ops = [] ∧ s.env.syms = [] ∧ s.blk.faulted = false ∧ s.blk.decState = .idle ∧ PortAnswer.rejected ∉ s.env.answers

end Sys2Proof.Machine
end

