-- ==== Sys2Proof/Certificates/Slice0/Obligations.lean ====
section
/-! DEFINITION. The statements for the provers. Each is about every state (or every state meeting the hypotheses it
names); an equality of outcomes is the result and the frame at once: every part of the state the right side does not
name is as before. -/

open Sys2Proof Sys2Proof.Machine

/-! ## Reset, decoding and the step -/

/-- Rules R42, R240 and R241, with the model's own choices of log entries 9, 11 and 20: every component of the block takes its
listed reset value from every state; the parameters and what the transport holds are not touched (rules R42, R241); the
records of answers and writes stay and the work area is emptied, which are the model's. -/
def Obligations.ResetGivesEveryComponentItsValue : Prop :=
  ∀ s : State, exec .reset s = .next
    { blk :=
        { crc := 0x0000#16, txBuf := [], decState := .idle, rxBuf := [], pl := [], missingEsc := false,
          crcErr := false, txFail := false, rxOvf := false, decResult := .none, unpOutcome := .none,
          value :=
            { regEcho := 0#16, unit := 0#8, unitKnown := false, mantLen := 0#8, expCtrl := 0#8, sign := false, exp := 0,
              mant := 0 } }
      env := s.env
      work := Work.empty
      params := s.params }
    ∧ exec .reset s = .next { s with blk := State.reset.blk, work := State.reset.work }

/-- Rules R92 and R93's table: every command word reads as the operation of its code, with its operand; all other bits
are ignored. -/
def Obligations.CommandWordReadsAsItsCode : Prop :=
  ∀ (op : BitVec 4) (arg : Byte),
    (op = 0x1#4 → decodeCmd (op ++ arg) = .crcClr)
    ∧ (op = 0x2#4 → decodeCmd (op ++ arg) = .crcBit (arg.getLsbD 0))
    ∧ (op = 0x3#4 → decodeCmd (op ++ arg) = .crcByte arg)
    ∧ (op = 0x4#4 → decodeCmd (op ++ arg) = .encPush arg)
    ∧ (op = 0x5#4 → decodeCmd (op ++ arg) = .encSend arg)
    ∧ (op = 0x6#4 → decodeCmd (op ++ arg) = .decArm)
    ∧ (op = 0x7#4 → decodeCmd (op ++ arg) = .unpDecode)
    ∧ (op = 0x0#4 ∨ 0x8#4 ≤ op → decodeCmd (op ++ arg) ∈
        [.reserved0, .reserved8, .reserved9, .reservedA, .reservedB, .reservedC, .reservedD, .reservedE, .reservedF])

/-- Rule R93: a word with a reserved code, and each of the nine rows, is rejected and changes no state of the block, nor
anything else but the command port's answer. -/
def Obligations.ReservedCodesAreRejected : Prop :=
  ∀ s : State,
    (∀ w : CmdWord, (w.extractLsb' 8 4 = 0x0#4 ∨ 0x8#4 ≤ w.extractLsb' 8 4) →
      exec (decodeCmd w) s = .next { s with env := { s.env with answers := .rejected :: s.env.answers } })
    ∧ ∀ i ∈ [Instr.reserved0, .reserved8, .reserved9, .reservedA, .reservedB, .reservedC, .reservedD, .reservedE,
        .reservedF],
      exec i s = .next { s with env := { s.env with answers := .rejected :: s.env.answers } }

/-- A step runs the decoded instruction (rules R16, R21): on the host's turn its next operation, on the transport's turn,
when the block listens, the next symbol, each taken from its list and the turn used up. -/
def Obligations.StepRunsTheDecodedInstruction : Prop :=
  (∀ (s : State) (x : HostInput) (rest : List HostInput) (i : Instr),
    s.turn = .host → s.env.ops = x :: rest → decode (.host x) = .ok i →
    step s = exec i { s with env := { s.env with ops := rest, turns := s.env.turns.tail } })
  ∧ ∀ (s : State) (x : Symbol) (rest : List Symbol) (i : Instr),
    s.turn = .transport → s.listening → s.env.syms = x :: rest → decode (.line x) = .ok i →
    step s = exec i { s with env := { s.env with syms := rest, turns := s.env.turns.tail } }

/-- Rules R142, R211 and R257 at the step, with the model's own choices of log entries 2, 3, 4 and 15: with no turn listed
the transport moves exactly when the block listens; a turn with nothing to do passes; a pull without an answer is a stop
by name; an item that is no encoding is refused by name. -/
def Obligations.StepWithNothingToRun : Prop :=
  ∀ s : State,
    (s.env.turns = [] → s.listening → s.turn = .transport)
    ∧ (s.env.turns = [] → ¬ s.listening → s.turn = .host)
    ∧ (s.turn = .host → s.env.ops = [] →
        step s = .next { s with env := { s.env with turns := s.env.turns.tail } })
    ∧ (s.turn = .transport → ¬ s.listening →
        step s = .next { s with env := { s.env with turns := s.env.turns.tail } })
    ∧ (s.turn = .transport → s.listening → s.env.syms = [] → step s = .fault .transportSilent)
    ∧ (∀ x rest why, s.turn = .host → s.env.ops = x :: rest → decode (.host x) = .error why →
        step s = .refused (.notAnEncoding why))

/-- Decode and encode agree: every well-formed instruction is read back from its encoding with every operand. -/
def Obligations.DecodeOfEncodeIsTheInstruction : Prop :=
  ∀ i : Instr, i.wf = true → decode (encode i) = .ok i

/-- What the decoder accepts is well formed, and, but for the ignored bits of a command word (rule R92), it is exactly the
encoding of what it is read as. -/
def Obligations.DecodedIsWellFormedAndExact : Prop :=
  ∀ (p : Port) (i : Instr), decode p = .ok i →
    i.wf = true ∧ ((∀ w, p ≠ .host (.word w)) → encode i = p) ∧ decode (encode i) = .ok i

/-- Words written out from the spec's tables read as their instructions: P1's and P6's command words, the received classes,
a pair, a scan literal, the empty reply, a request, and frame E3. -/
def Obligations.WrittenOutWordsDecode : Prop :=
  decode (.host (.word 0x43F#12)) = .ok (.encPush 0x3F#8)
  ∧ decode (.host (.word 0x580#12)) = .ok (.encSend 0x80#8)
  ∧ decode (.host (.word 0x201#12)) = .ok (.crcBit true)
  ∧ decode (.line (.byte 0x40#8)) = .ok .rxResync
  ∧ decode (.line (.byte 0x1B#8)) = .ok (.rxData 0x1B#8)
  ∧ decode (.host (.item .wireScan [0x1B#8, 0xF9#8])) = .ok (.scanPair 0xF9#8)
  ∧ decode (.host (.item .payload [0x3F#8, 0x10#8])) = .ok .replyEmpty
  ∧ decode (.host (.item .payload [0x3F#8, 0x10#8, 0x01#8, 0x00#8, 0x3C#8])) = .ok (.reqRead 0x003C#16)
  ∧ decode (.host (.item .frame [0x80#8, 0x3F#8, 0x10#8, 0x01#8, 0x1B#8, 0xF9#8, 0x1B#8, 0x7F#8, 0x7E#8, 0xAE#8,
      0x0D#8])) = .ok (.frame 0x80#8 [0x3F#8, 0x10#8, 0x01#8, 0x06#8, 0x80#8])

/-! ## The CRC unit -/

/-- Rule R101: CRC.CLR clears the register from every state that takes it, and nothing else but the port's answer
changes; it is rejected, with no state changed, when `fault != 0` or `dec_state = DEC_ACC`; its code is 0x1. -/
def Obligations.CrcClrClearsTheRegister : Prop :=
  ∀ s : State,
    (s.ready → exec .crcClr s = .next
      { s with blk := { s.blk with crc := 0x0000#16 }, env := { s.env with answers := .ok :: s.env.answers } })
    ∧ (¬ s.ready → exec .crcClr s = .next { s with env := { s.env with answers := .rejected :: s.env.answers } })
    ∧ ∀ arg : Byte, decode (.host (.word (0x1#4 ++ arg))) = .ok .crcClr

/-- Rule R102, bit by bit with `f` the old `crc[15]`: `crc[0] = b ^ f`, `crc[5] = crc[4] ^ f`, `crc[12] = crc[11] ^ f`,
every other `crc[i] = crc[i-1]`; and as the rule's pseudocode, on the 17-bit `t`; rejected as CRC.CLR; its code is 0x2. The
spec marks the rule as derived from rule R106. -/
def Obligations.CrcBitShiftsOneBitIn : Prop :=
  ∀ (s : State) (b : Bool),
    (s.ready → ∃ c : Word,
      exec (.crcBit b) s = .next
        { s with blk := { s.blk with crc := c }, env := { s.env with answers := .ok :: s.env.answers } }
      ∧ (∀ i < 16, c.getLsbD i =
          if i = 0 then b ^^ s.blk.crc.getLsbD 15
          else if i = 5 ∨ i = 12 then s.blk.crc.getLsbD (i - 1) ^^ s.blk.crc.getLsbD 15
          else s.blk.crc.getLsbD (i - 1))
      ∧ c.toNat =
          (let t := s.blk.crc.toNat * 2 + b.toNat
           if 65536 ≤ t then (t % 65536) ^^^ 0x1021 else t))
    ∧ (¬ s.ready → exec (.crcBit b) s = .next { s with env := { s.env with answers := .rejected :: s.env.answers } })
    ∧ ∀ arg : Byte, decode (.host (.word (0x2#4 ++ arg))) = .ok (.crcBit (arg.getLsbD 0))

/-- Rule R103: the state of the block after CRC.BYTE is exactly the state after the eight CRC.BIT operations, most
significant bit first; CRC.BYTE writes nothing else; rejected as CRC.CLR; its code is 0x3. -/
def Obligations.CrcByteIsEightCrcBits : Prop :=
  ∀ (s : State) (v : Byte),
    (s.ready → ∃ (c : Word) (u : State),
      exec (.crcByte v) s = .next
        { s with blk := { s.blk with crc := c }, env := { s.env with answers := .ok :: s.env.answers } }
      ∧ execAll [.crcBit (v.getLsbD 7), .crcBit (v.getLsbD 6), .crcBit (v.getLsbD 5), .crcBit (v.getLsbD 4),
          .crcBit (v.getLsbD 3), .crcBit (v.getLsbD 2), .crcBit (v.getLsbD 1), .crcBit (v.getLsbD 0)] s = .next u
      ∧ u.blk = { s.blk with crc := c })
    ∧ (¬ s.ready → exec (.crcByte v) s = .next { s with env := { s.env with answers := .rejected :: s.env.answers } })
    ∧ decode (.host (.word (0x3#4 ++ v))) = .ok (.crcByte v)

/-- Rule R104: `crc16(s)` is what the register holds after CRC.CLR and CRC.BYTE of each byte, from any state that takes
them; it is a fold from the cleared register, and `crc16([]) = 0x0000`. -/
def Obligations.Crc16IsClearThenEveryByte : Prop :=
  (∀ (s : State) (m : List Byte), s.ready → ∃ t : State,
    execAll (.crcClr :: m.map .crcByte) s = .next t
    ∧ t.blk = { s.blk with crc := crc16 m } ∧ t.work = s.work ∧ t.params = s.params
    ∧ t.env = { s.env with answers := List.replicate (m.length + 1) .ok ++ s.env.answers })
  ∧ (∀ m : List Byte, crc16 m = m.foldl crcByteStep 0x0000#16) ∧ crc16 [] = 0x0000#16

/-- A word as a polynomial over GF(2), rule R105: bit `i` is the coefficient of `x^i`. -/
noncomputable def Sys2Proof.Machine.wordPoly (c : Word) : Polynomial (ZMod 2) :=
  ∑ i ∈ Finset.range 16, if c.getLsbD i then Polynomial.X ^ i else 0

/-- A bit sequence as a polynomial over GF(2), rule R105: first bit the highest power. -/
noncomputable def Sys2Proof.Machine.bitsPoly (w : List Bool) : Polynomial (ZMod 2) :=
  w.foldl (fun p b => p * Polynomial.X + if b then 1 else 0) 0

/-- `P(x) = x^16 + x^12 + x^5 + 1`, rule R105. -/
noncomputable def Sys2Proof.Machine.crcPoly : Polynomial (ZMod 2) :=
  Polynomial.X ^ 16 + Polynomial.X ^ 12 + Polynomial.X ^ 5 + 1

/-- Rule R105: after the bits `w` from the start value `c` the register holds `(c(x) * x^k + w(x)) mod P(x)`; after
CRC.CLR and the bytes of `s`, `s(x) mod P(x)`. -/
def Obligations.CrcIsThePolynomialRemainder : Prop :=
  (∀ (c : Word) (w : List Bool),
    wordPoly (w.foldl crcShift c) = (wordPoly c * Polynomial.X ^ w.length + bitsPoly w) %ₘ crcPoly)
  ∧ ∀ s : List Byte, wordPoly (crc16 s) = bitsPoly (s.flatMap bitsOf) %ₘ crcPoly

/-- Rule R109: the residue of every payload with its own CRC bytes is zero, with `fcs` for the CRC a frame carries; with
the function of rule R104 in its place the statement is false, by the rule's own example. -/
def Obligations.ResidueOfOwnCrcIsZero : Prop :=
  (∀ m : List Byte, crc16 (m ++ be16 (fcs m)) = 0x0000#16)
  ∧ crc16 [0x01#8] = 0x0001#16 ∧ crc16 [0x01#8, 0x00#8, 0x01#8] = 0x1020#16

/-- Rule R114, (a) to (h); (h) as the rule's words "the residue" have it: `u` verifies, and with one bit changed it does
not. -/
def Obligations.CrcProperties : Prop :=
  crc16 [] = 0#16
  ∧ (∀ s : List Byte, s.length ≤ 2 → (crc16 s).toNat = benat s)
  ∧ (∀ s : List Byte, crc16 (0x00#8 :: s) = crc16 s ∧ fcs (0x00#8 :: s) = fcs s)
  ∧ (∀ a b : List Byte, a.length = b.length → crc16 (List.zipWith (· ^^^ ·) a b) = crc16 a ^^^ crc16 b)
  ∧ (∀ s : List Byte, crc16 (s ++ [0x00#8, 0x00#8]) = 0#16 ↔ crc16 s = 0#16)
  ∧ (∀ u : List Byte, crc16 u = 0#16 → crc16 (u ++ [0x00#8]) = 0#16)
  ∧ crc16 [0x01#8, 0x10#8, 0x21#8] = 0#16
  ∧ ∀ (u v : List Byte) (b : Byte) (j : Nat), j < 8 → crc16 (u ++ b :: v) = 0#16 →
      crc16 (u ++ (b ^^^ (1#8 <<< j)) :: v) ≠ 0#16

/-- Form X of rule R106: the message bit makes the feedback with `crc[15]` and nothing enters at bit 0. -/
def Sys2Proof.Machine.formXShift (c : Word) (b : Bool) : Word :=
  if c.getLsbD 15 ^^ b then (c <<< 1) ^^^ 0x1021#16 else c <<< 1

/-- Rule R110's first and last sentences: `fcs(m)` is what form X leaves after `m` alone, and the two residues are zero
together. -/
def Obligations.FcsEqualsFormX : Prop :=
  (∀ m : List Byte, fcs m = (m.flatMap bitsOf).foldl formXShift 0#16)
  ∧ ∀ u : List Byte, crc16 u = 0#16 ↔ (u.flatMap bitsOf).foldl formXShift 0#16 = 0#16

/-! ## The frame encoder -/

/-- Rule R124: a byte is appended to the staging buffer and nothing else of the block changes; a full buffer, a fault or a
receive in progress rejects; its code is 0x4. -/
def Obligations.EncPushStagesOneByte : Prop :=
  ∀ (s : State) (v : Byte),
    (s.ready → s.params.txBufMax ≠ some s.blk.txBuf.length → exec (.encPush v) s = .next
      { s with
        blk := { s.blk with txBuf := s.blk.txBuf ++ [v] }
        env := { s.env with answers := .ok :: s.env.answers } })
    ∧ (¬ s.ready ∨ s.params.txBufMax = some s.blk.txBuf.length →
      exec (.encPush v) s = .next { s with env := { s.env with answers := .rejected :: s.env.answers } })
    ∧ decode (.host (.word (0x4#4 ++ v))) = .ok (.encPush v)

/-- Rules R125 and R133: the CRC of the staged payload is in `crc`, the frame goes to the transport in one write, the
staging buffer is emptied, `TX_FAIL` is set exactly when the transport answers `FAIL`, and the decoder's and unpacker's
state is untouched. Rules R127 and R128: on `OK` the frame's bytes are on the line in order, once, on `FAIL` some prefix of
them. For every answer the environment draws (log entries 6 and 7); rejected on a fault or in a receive; its code is
0x5. -/
def Obligations.EncSendWritesTheFrame : Prop :=
  ∀ (s : State) (p : Byte),
    (s.ready → ∃ (a : TxAnswer) (onLine : List Byte),
      a = s.env.nextTxAnswer
      ∧ exec (.encSend p) s = .next
        { s with
          blk := { s.blk with crc := fcs s.blk.txBuf, txBuf := [], txFail := decide (a = .fail) }
          env :=
            { s.env with
              txAnswers := s.env.txAnswers.tail
              draws := s.env.draws + 1
              writes :=
                ([p] ++ stuff (s.blk.txBuf ++ be16 (fcs s.blk.txBuf)) ++ [0x0D#8], a) :: s.env.writes
              line := s.env.line ++ onLine
              answers := .ok :: s.env.answers } }
      ∧ (a = .ok → onLine = [p] ++ stuff (s.blk.txBuf ++ be16 (fcs s.blk.txBuf)) ++ [0x0D#8])
      ∧ ∃ k, onLine = ([p] ++ stuff (s.blk.txBuf ++ be16 (fcs s.blk.txBuf)) ++ [0x0D#8]).take k)
    ∧ (¬ s.ready →
      exec (.encSend p) s = .next { s with env := { s.env with answers := .rejected :: s.env.answers } })
    ∧ decode (.host (.word (0x5#4 ++ p))) = .ok (.encSend p)

/-- Rule R131: between its ends a frame holds none of 06, 0D, 40, 80, and 1B only as the first byte of one of the five
pairs; its last byte is 0D and, for a prefix other than 0D, its only one; its length is `4 + len(m) + k`; un-escaping and
stripping it gives back `m` with no diagnostic. -/
def Obligations.FrameShape : Prop :=
  ∀ (p : Byte) (m : List Byte),
    ∃ body : List Byte,
      encodeFrame p m = [p] ++ body ++ [0x0D#8]
      ∧ (∀ b ∈ body, b ≠ 0x06#8 ∧ b ≠ 0x0D#8 ∧ b ≠ 0x40#8 ∧ b ≠ 0x80#8)
      ∧ (∀ i, body[i]? = some 0x1B#8 →
          ∃ c, body[i + 1]? = some c ∧ c ∈ [0xF9#8, 0xF2#8, 0xE4#8, 0xBF#8, 0x7F#8])
      ∧ (p ≠ 0x0D#8 → (encodeFrame p m).count 0x0D#8 = 1)
      ∧ (encodeFrame p m).length = 4 + m.length + (m ++ be16 (fcs m)).countP inEscSet
      ∧ stripCrc (unescape (encodeFrame p m)).1 = m ∧ (unescape (encodeFrame p m)).2 = false

/-- Rules R74, R121 and R122 run by themselves (log entry 11): each wire-tx row puts out its pair or its literal and
changes nothing else; the rows of a byte sequence, one after another, put out `stuff` of it; `esc` is rule R121's
table. -/
def Obligations.TxRowsStuffTheBytes : Prop :=
  (∀ (s : State) (b : Byte),
    exec .txEsc06 s = .next { s with work := { s.work with out := s.work.out ++ [0x1B#8, 0xF9#8] } }
    ∧ exec .txEsc0D s = .next { s with work := { s.work with out := s.work.out ++ [0x1B#8, 0xF2#8] } }
    ∧ exec .txEsc1B s = .next { s with work := { s.work with out := s.work.out ++ [0x1B#8, 0xE4#8] } }
    ∧ exec .txEsc40 s = .next { s with work := { s.work with out := s.work.out ++ [0x1B#8, 0xBF#8] } }
    ∧ exec .txEsc80 s = .next { s with work := { s.work with out := s.work.out ++ [0x1B#8, 0x7F#8] } }
    ∧ exec (.txLit b) s = .next { s with work := { s.work with out := s.work.out ++ [b] } })
  ∧ ∀ (s : State) (m : List Byte),
    execAll (m.map decodeTx) s = .next { s with work := { s.work with out := s.work.out ++ stuff m } }

/-- Rules R123 and R96 (ENC.FRAME), through log entry 12: with the block ready, `tx_buf` empty and room for the payload,
FRAME hands exactly `encode(P, m)` to the transport in one write, and leaves the block as ENC.SEND does. -/
def Obligations.FrameRowWritesEncode : Prop :=
  ∀ (s : State) (p : Byte) (m : List Byte),
    s.ready → s.blk.txBuf = [] → (∀ n, s.params.txBufMax = some n → m.length ≤ n) →
    ∃ (a : TxAnswer) (onLine : List Byte),
      a = s.env.nextTxAnswer
      ∧ exec (.frame p m) s = .next
        { s with
          blk := { s.blk with crc := fcs m, txBuf := [], txFail := decide (a = .fail) }
          env :=
            { s.env with
              txAnswers := s.env.txAnswers.tail
              draws := s.env.draws + 1
              writes := ([p] ++ stuff (m ++ be16 (fcs m)) ++ [0x0D#8], a) :: s.env.writes
              line := s.env.line ++ onLine
              answers := List.replicate (m.length + 1) .ok ++ s.env.answers } }
      ∧ (a = .ok → onLine = [p] ++ stuff (m ++ be16 (fcs m)) ++ [0x0D#8])
      ∧ ∃ k, onLine = ([p] ++ stuff (m ++ be16 (fcs m)) ++ [0x0D#8]).take k

/-- Rules R83 and R224, through log entry 12: with legal parameters, the block ready and `tx_buf` empty, the request for
register `id` is staged whole. -/
def Obligations.RequestIsStaged : Prop :=
  ∀ (s : State) (id : Word), s.ready → s.blk.txBuf = [] → s.params.legal = true →
    exec (.reqRead id) s = .next
      { s with
        blk := { s.blk with
          txBuf := [0x3F#8, 0x10#8, 0x01#8, id.extractLsb' 8 8, id.extractLsb' 0 8] }
        env := { s.env with answers := [.ok, .ok, .ok, .ok, .ok] ++ s.env.answers } }

/-! ## The frame decoder -/

/-- Rule R141: DEC.ARM empties the buffer and the results and opens the receive; `crc` and `tx_buf` are not touched, nor what
the transport holds; rejected on a fault and while armed; its code is 0x6. -/
def Obligations.DecArmOpensTheReceive : Prop :=
  ∀ s : State,
    (s.ready → exec .decArm s = .next
      { s with
        blk := { s.blk with
          rxBuf := [], pl := [], decResult := .none, missingEsc := false, crcErr := false, unpOutcome := .none,
          value :=
            { regEcho := 0#16, unit := 0#8, unitKnown := false, mantLen := 0#8, expCtrl := 0#8, sign := false, exp := 0,
              mant := 0 }
          decState := .acc }
        env := { s.env with answers := .ok :: s.env.answers } })
    ∧ (¬ s.ready → exec .decArm s = .next { s with env := { s.env with answers := .rejected :: s.env.answers } })
    ∧ ∀ arg : Byte, decode (.host (.word (0x6#4 ++ arg))) = .ok .decArm

/-- Rule R144: the byte 0x40 discards what was accumulated and restarts the buffer at itself; nothing else changes, and it
always fits. -/
def Obligations.ResyncRestartsTheBuffer : Prop :=
  decode (.line (.byte 0x40#8)) = .ok .rxResync
  ∧ ∀ s : State, s.listening → exec .rxResync s = .next { s with blk := { s.blk with rxBuf := [0x40#8] } }

/-- Rule R145 (overflow as rule R153): every byte but 0x40 and 0x0D is appended; one that does not fit is dropped, the buffer
emptied, the receive ended and `RX_OVF` set. -/
def Obligations.DataByteIsAppendedOrOverflows : Prop :=
  ∀ (s : State) (b : Byte), s.listening →
    (s.params.rxBufMax ≠ some s.blk.rxBuf.length →
      exec (.rxData b) s = .next { s with blk := { s.blk with rxBuf := s.blk.rxBuf ++ [b] } })
    ∧ (s.params.rxBufMax = some s.blk.rxBuf.length →
      exec (.rxData b) s = .next { s with blk := { s.blk with rxBuf := [], decState := .idle, rxOvf := true } })
    ∧ (b ≠ 0x40#8 → b ≠ 0x0D#8 → decode (.line (.byte b)) = .ok (.rxData b))

/-- Rule R146, with rules R150 and R151: the terminator that fits ends the frame: `crc` is the residue, both diagnostics
are written, `pl` is the unescaped payload without its last two bytes, empty when there are fewer. One that does not fit
overflows. -/
def Obligations.TermByteEndsTheFrame : Prop :=
  decode (.line (.byte 0x0D#8)) = .ok .rxTerm
  ∧ ∀ s : State, s.listening →
    (s.params.rxBufMax ≠ some s.blk.rxBuf.length → ∃ (u : List Byte) (me : Bool),
      unescape (s.blk.rxBuf ++ [0x0D#8]) = (u, me)
      ∧ exec .rxTerm s = .next
        { s with
          blk := { s.blk with
            crc := crc16 u, missingEsc := me, crcErr := decide (crc16 u ≠ 0#16), pl := u.take (u.length - 2),
            decResult := .frame, rxBuf := [], decState := .idle } })
    ∧ (s.params.rxBufMax = some s.blk.rxBuf.length →
      exec .rxTerm s = .next { s with blk := { s.blk with rxBuf := [], decState := .idle, rxOvf := true } })

/-- Rule R152: a timeout ends the receive without a frame and throws the buffer away; nothing else changes. -/
def Obligations.TimeoutEndsWithoutAFrame : Prop :=
  decode (.line .timeout) = .ok .rxTimeout
  ∧ ∀ s : State, s.listening →
    exec .rxTimeout s = .next { s with blk := { s.blk with rxBuf := [], decResult := .noFrame, decState := .idle } }

/-- Rule R142 (the model's form of it is log entry 5): a symbol that comes when the block does not listen changes nothing
of the block and stays with the transport. -/
def Obligations.UnpulledSymbolStaysWithTheTransport : Prop :=
  ∀ (s : State) (x : Symbol) (i : Instr), ¬ s.listening → decode (.line x) = .ok i →
    exec i s = .next { s with env := { s.env with syms := x :: s.env.syms } }

/-- Rule R147: the model's un-escape is the rule's loop, from `i = 1` with `u` and `me` empty, for every buffer. -/
def Obligations.UnescapeIsTheLoop : Prop :=
  ∀ (buf : List Byte) (fuel : Nat), buf.length ≤ fuel → unescapeLoop buf fuel 1 [] false = unescape buf

/-- Rules R76, R147 and R148 run by themselves (log entry 11): a pair gives its second byte XOR 0xFF and raises `me` when
that is outside the Escape Table, a literal gives itself; the items of a buffer, one after another, give its
un-escape. -/
def Obligations.ScanRowsUnescapeTheBuffer : Prop :=
  (∀ (s : State) (x : Byte),
    exec (.scanPair x) s = .next
      { s with
        work := { s.work with
          u := s.work.u ++ [x ^^^ 0xFF#8]
          me := s.work.me || !(decide (x ∈ [0xF9#8, 0xF2#8, 0xE4#8, 0xBF#8, 0x7F#8])) } }
    ∧ exec (.scanLit x) s = .next { s with work := { s.work with u := s.work.u ++ [x] } })
  ∧ ∀ (s : State) (buf : List Byte),
    execAll (scanItems (buf.drop 1)) s = .next
      { s with work := { s.work with u := s.work.u ++ (unescape buf).1, me := s.work.me || (unescape buf).2 } }

/-- Rule R149: a marker directly before the terminator, not itself the second byte of a pair, gives 0xF2 and raises the
diagnostic; with the rule's example through the machine. -/
def Obligations.DanglingEscapeGivesF2 : Prop :=
  (∀ (p : Byte) (m : List Byte), unescape ([p] ++ stuff m ++ [0x1B#8, 0x0D#8]) = (m ++ [0xF2#8], true))
  ∧ ∀ s : State, s.listening → s.params.rxBufMax = none → s.blk.rxBuf = [0x40#8, 0x3F#8, 0x10#8, 0x1B#8] →
    exec .rxTerm s = .next
      { s with
        blk := { s.blk with
          crc := 0xD74E#16, missingEsc := true, crcErr := true, pl := [0x3F#8], decResult := .frame, rxBuf := [],
          decState := .idle } }

/-- Rule R157: for every payload and every prefix byte but 0x0D, arming and receiving the frame gives the payload back, with no
diagnostic and residue 0, every byte consumed and none left over, on a block that is ready and has room for the
frame. -/
def Obligations.RoundTripGivesThePayloadBack : Prop :=
  ∀ (s : State) (p : Byte) (m : List Byte),
    s.ready → p ≠ 0x0D#8 → (∀ n, s.params.rxBufMax = some n → (encodeFrame p m).length ≤ n) →
    andThen (exec .decArm s) (receive ((encodeFrame p m).map .byte)) = .next
      { s with
        blk := { s.blk with
          crc := 0x0000#16, rxBuf := [], pl := m, decResult := .frame, missingEsc := false, crcErr := false,
          unpOutcome := .none, value := ValueFields.zero, decState := .idle }
        env := { s.env with answers := .ok :: s.env.answers } }

/-- Rule R160: arming and then taking symbols one by one is the whole-receive function; the symbols it does not consume are
left with the transport, and a sequence that ends first leaves the receive open. -/
def Obligations.ReceiveIsTheDecodeFunction : Prop :=
  ∀ (s : State) (xs : List Symbol), s.ready → ∃ t : State,
    andThen (exec .decArm s) (receive xs) = .next t
    ∧ t.env.syms = (decodeSyms s.params.rxBufMax [] xs).2 ++ s.env.syms
    ∧ match (decodeSyms s.params.rxBufMax [] xs).1 with
      | .frame pl me residue =>
        t.blk.decState = .idle ∧ t.blk.decResult = .frame ∧ t.blk.pl = pl ∧ t.blk.missingEsc = me
          ∧ t.blk.crc = residue ∧ t.blk.crcErr = decide (residue ≠ 0#16) ∧ t.blk.rxBuf = [] ∧ t.blk.rxOvf = false
      | .noFrame =>
        t.blk.decState = .idle ∧ t.blk.decResult = .noFrame ∧ t.blk.pl = [] ∧ t.blk.crc = s.blk.crc
          ∧ t.blk.rxBuf = [] ∧ t.blk.rxOvf = false
      | .overflow =>
        t.blk.decState = .idle ∧ t.blk.decResult = .none ∧ t.blk.rxOvf = true ∧ t.blk.crc = s.blk.crc
          ∧ t.blk.rxBuf = []
      | .pending buf =>
        t.blk.decState = .acc ∧ t.blk.decResult = .none ∧ t.blk.rxBuf = buf ∧ t.blk.crc = s.blk.crc

/-- Rule R254's stall, kept by the model: any number of 0x40 leaves the receive open with one byte in the buffer, whatever
the capacity. -/
def Obligations.EndlessResyncNeverEnds : Prop :=
  ∀ (s : State) (n : Nat), s.listening →
    receive (List.replicate (n + 1) (.byte 0x40#8)) s = .next { s with blk := { s.blk with rxBuf := [0x40#8] } }

/-! ## The unpacker -/

/-- Rules R171 and R172, test by test, each outcome under its own condition with the earlier tests failed, and every field
zero but for `VALUE` (rule R35), whose fields are rule R177's; rejected on a fault, in a receive, and when nothing was
received; its code is 0x7. -/
def Obligations.UnpackReportsOneOutcome : Prop :=
  ∀ s : State,
    let n := s.blk.pl.length
    let good := byteAt s.blk.pl 0 = 0x3F#8 ∧ byteAt s.blk.pl 1 = 0x10#8
    let gives := fun o : UnpOutcome => exec .unpDecode s = .next
      { s with
        blk := { s.blk with unpOutcome := o, value := ValueFields.zero }
        env := { s.env with answers := .ok :: s.env.answers } }
    (¬ s.ready ∨ s.blk.decResult = .none →
      exec .unpDecode s = .next { s with env := { s.env with answers := .rejected :: s.env.answers } })
    ∧ (s.ready → s.blk.decResult = .noFrame → gives .noResponse)
    ∧ (s.ready → s.blk.decResult = .frame →
        (n < 2 → gives .malformed)
        ∧ (2 ≤ n → ¬ good → gives .badHeader)
        ∧ (good → n = 2 → gives .emptyReply)
        ∧ (good → 2 < n → n < 7 → gives .malformed)
        ∧ (good → 7 ≤ n → n < 7 + (byteAt s.blk.pl 5).toNat → gives .malformed)
        ∧ (good → 7 + (byteAt s.blk.pl 5).toNat ≤ n → exec .unpDecode s = .next
            { s with
              blk := { s.blk with unpOutcome := .value, value := fieldsOf s.blk.pl }
              env := { s.env with answers := .ok :: s.env.answers } }))
    ∧ ∀ arg : Byte, decode (.host (.word (0x7#4 ++ arg))) = .ok .unpDecode

/-- Rules R177 to R182 and R171: a good header and at least `7 + L` bytes give `VALUE` with these fields, each from its
byte of `pl`; bytes past the mantissa are ignored, and the mantissa is the sum of rule R180, below `256^L`. -/
def Obligations.UnpackGivesTheFields : Prop :=
  ∀ s : State,
    let p := s.blk.pl
    let len := (byteAt p 5).toNat
    s.ready → s.blk.decResult = .frame → byteAt p 0 = 0x3F#8 → byteAt p 1 = 0x10#8 → 7 + len ≤ p.length →
    ∃ v : ValueFields,
      exec .unpDecode s = .next
        { s with
          blk := { s.blk with unpOutcome := .value, value := v }
          env := { s.env with answers := .ok :: s.env.answers } }
      ∧ v.regEcho.toNat = (byteAt p 2).toNat * 256 + (byteAt p 3).toNat
      ∧ v.unit = byteAt p 4
      ∧ (v.unitKnown = true ↔ (byteAt p 4).toNat ≤ 64 ∧ (byteAt p 4).toNat ≠ 51)
      ∧ v.mantLen = byteAt p 5
      ∧ v.expCtrl = byteAt p 6
      ∧ v.sign = (byteAt p 6).getLsbD 7
      ∧ v.exp = (if (byteAt p 6).getLsbD 6 then -(((byteAt p 6).toNat % 64 : Nat) : Int)
          else (((byteAt p 6).toNat % 64 : Nat) : Int))
      ∧ v.mant = ∑ k ∈ Finset.range len, (byteAt p (7 + k)).toNat * 256 ^ (len - 1 - k)
      ∧ v.mant < 256 ^ len

/-- Rule R171's "may be issued again and gives the same result" and rule R188: the diagnostics, the residue and what else
the unpacker does not read make no difference to what it reports. -/
def Obligations.UnpackReadsOnlyTheResult : Prop :=
  ∀ s s' : State, s.ready → s'.ready → s.blk.decResult = s'.blk.decResult → s.blk.pl = s'.blk.pl →
    s.blk.decResult ≠ .none →
    ∃ (o : UnpOutcome) (v : ValueFields),
      exec .unpDecode s = .next
        { s with
          blk := { s.blk with unpOutcome := o, value := v }
          env := { s.env with answers := .ok :: s.env.answers } }
      ∧ exec .unpDecode s' = .next
        { s' with
          blk := { s'.blk with unpOutcome := o, value := v }
          env := { s'.env with answers := .ok :: s'.env.answers } }
      ∧ andThen (exec .unpDecode s) (exec .unpDecode) = .next
        { s with
          blk := { s.blk with unpOutcome := o, value := v }
          env := { s.env with answers := .ok :: .ok :: s.env.answers } }

/-- Rules R178 and R179 through log entry 11: an exponent-control byte run by itself gives the independent sign and the
sign-and-magnitude exponent, from -63 to 63, and changes nothing else. -/
def Obligations.ExpCtrlIsSignAndMagnitude : Prop :=
  ∀ (s : State) (c : Byte), ∃ e : Int,
    exec (.expCtrl c) s = .next { s with work := { s.work with expCtrl := c, sign := c.getLsbD 7, exp := e } }
    ∧ (c.getLsbD 6 = false → e = ((c.toNat % 64 : Nat) : Int))
    ∧ (c.getLsbD 6 = true → e = -((c.toNat % 64 : Nat) : Int))
    ∧ -63 ≤ e ∧ e ≤ 63

/-- Rules R36, R185 and R186: the value a `VALUE` stands for is `(-1)^sign * mant * 10^exp`; it depends on the three
fields alone; zero has no sign; and the source's examples (rule R179). -/
def Obligations.ValueIsTheExactRational : Prop :=
  (∀ v : ValueFields, v.rational = (-1 : ℚ) ^ v.sign.toNat * (v.mant : ℚ) * (10 : ℚ) ^ v.exp)
  ∧ (∀ v : ValueFields, v.mant = 0 → v.rational = 0)
  ∧ (∀ v : ValueFields, v.sign = signOf 0x42#8 → v.exp = expOf 0x42#8 → v.mant = 500 → v.rational = 5)
  ∧ ∀ v : ValueFields, v.sign = signOf 0x81#8 → v.exp = expOf 0x81#8 → v.mant = 10 → v.rational = -100

/-- Rules R12, R36 and R183: code 2 is `kWh`, code 51 and every code above 64 have no label, and what a `VALUE` stands for
is the number with the label of its unit; no other label is assumed (log entry 10). -/
def Obligations.UnknownUnitHasNoLabel : Prop :=
  (∀ u : Byte, 64 < u.toNat ∨ u.toNat = 51 → unitLabel u = none)
  ∧ unitLabel 2#8 = some "kWh"
  ∧ ∀ b : Block, b.unpOutcome = .value → b.decodedValue = some (b.value.rational, unitLabel b.value.unit)

/-- Rule R176 through log entry 12: the empty reply comes in as `40 3F 10 07 9A 0D` and is unpacked as `EMPTY_REPLY`, on a
ready block with room for the six bytes. -/
def Obligations.EmptyReplyIsReported : Prop :=
  ∀ s : State, s.ready → (∀ n, s.params.rxBufMax = some n → 6 ≤ n) →
    encodeFrame 0x40#8 [0x3F#8, 0x10#8] = [0x40#8, 0x3F#8, 0x10#8, 0x07#8, 0x9A#8, 0x0D#8]
    ∧ exec .replyEmpty s = .next
      { s with
        blk := { s.blk with
          crc := 0x0000#16, rxBuf := [], pl := [0x3F#8, 0x10#8], decResult := .frame, missingEsc := false,
          crcErr := false, unpOutcome := .emptyReply, value := ValueFields.zero, decState := .idle }
        env := { s.env with answers := .ok :: .ok :: s.env.answers } }

/-- Rules R85, R177 and R181 through log entry 12: a reply with a value, received and unpacked on a ready block with room
for its frame, gives the reply's own fields; the bytes past the mantissa make no difference. -/
def Obligations.ValueReplyIsUnpacked : Prop :=
  ∀ (s : State) (reg : Word) (unit ctl : Byte) (mant tail : List Byte),
    s.ready → mant.length ≤ 255 →
    (∀ n, s.params.rxBufMax = some n → (encodeFrame 0x40#8 (valuePayload reg unit ctl mant tail)).length ≤ n) →
    exec (.replyValue reg unit ctl mant tail) s = .next
      { s with
        blk := { s.blk with
          crc := 0x0000#16, rxBuf := [], pl := valuePayload reg unit ctl mant tail, decResult := .frame,
          missingEsc := false, crcErr := false, unpOutcome := .value,
          value :=
            { regEcho := reg, unit := unit, unitKnown := unitKnownOf unit, mantLen := BitVec.ofNat 8 mant.length,
              expCtrl := ctl, sign := signOf ctl, exp := expOf ctl, mant := benat mant }
          decState := .idle }
        env := { s.env with answers := .ok :: .ok :: s.env.answers } }

/-- Rules R96, R223, R224 and R228: one whole READ_REGISTER from a ready block with an empty `tx_buf` and a transport that
takes the request: the frame of the request is written once, a reply with a value gives its fields, and a transport
that stays silent, at once or after some bytes that end no frame, gives `NO_RESPONSE`. -/
def Obligations.ReadRegisterEndToEnd : Prop :=
  ∀ (s : State) (id : Word), s.ready → s.blk.txBuf = [] → s.params.legal = true → s.env.nextTxAnswer = .ok →
    (∀ (p : Byte) (reg : Word) (unit ctl : Byte) (mant tail : List Byte), p ≠ 0x0D#8 → mant.length ≤ 255 →
      (∀ n, s.params.rxBufMax = some n → (encodeFrame p (valuePayload reg unit ctl mant tail)).length ≤ n) →
      ∃ t : State,
        readRegister id ((encodeFrame p (valuePayload reg unit ctl mant tail)).map .byte) s = .next t
        ∧ t.env.writes = (encodeFrame 0x80#8 [0x3F#8, 0x10#8, 0x01#8, id.extractLsb' 8 8, id.extractLsb' 0 8], .ok)
          :: s.env.writes
        ∧ t.blk.unpOutcome = .value ∧ t.blk.crcErr = false ∧ t.blk.missingEsc = false ∧ t.blk.faulted = false
        ∧ t.blk.decState = .idle ∧ t.blk.value =
          { regEcho := reg, unit := unit, unitKnown := unitKnownOf unit, mantLen := BitVec.ofNat 8 mant.length,
            expCtrl := ctl, sign := signOf ctl, exp := expOf ctl, mant := benat mant })
    ∧ ∀ bs : List Byte, 0x0D#8 ∉ bs → (∀ n, s.params.rxBufMax = some n → bs.length ≤ n) →
      ∃ t : State,
        readRegister id (bs.map .byte ++ [.timeout]) s = .next t
        ∧ t.env.writes = (encodeFrame 0x80#8 [0x3F#8, 0x10#8, 0x01#8, id.extractLsb' 8 8, id.extractLsb' 0 8], .ok)
          :: s.env.writes
        ∧ t.blk.unpOutcome = .noResponse ∧ t.blk.value = ValueFields.zero ∧ t.blk.faulted = false
        ∧ t.blk.decState = .idle

/-! ## The whole machine -/

/-- Rules R205, R207, R208 and R212: no instruction ever stops the machine; diagnostics, outcomes, faults and rejections are
all next states. That a received symbol answers one also on a block that does not listen, where rule R142 has no such step
(log entry 5), that the rows of the wire formats and EXP_CTRL run by themselves (log entry 11) and that FRAME, REQ.READ
and the replies run as operation sequences (log entry 12) are the model's choices. -/
def Obligations.EveryInstructionAnswersANextState : Prop :=
  ∀ (i : Instr) (s : State), ∃ t : State, exec i s = .next t

/-- Rules R208 and R209: a command word is answered `REJECTED` exactly under its condition, and then nothing but the answer
changes; otherwise it is answered `OK`. -/
def Obligations.CommandRejectedExactlyWhen : Prop :=
  ∀ (w : CmdWord) (s : State), ∃ t : State, exec (decodeCmd w) s = .next t
    ∧ let rejected : Prop := ¬ s.ready
        ∨ (∃ v, decodeCmd w = .encPush v) ∧ s.params.txBufMax = some s.blk.txBuf.length
        ∨ decodeCmd w = .unpDecode ∧ s.blk.decResult = .none
        ∨ w.extractLsb' 8 4 = 0x0#4 ∨ 0x8#4 ≤ w.extractLsb' 8 4
      (rejected → t = { s with env := { s.env with answers := .rejected :: s.env.answers } })
      ∧ (¬ rejected → t.env.answers = .ok :: s.env.answers)

/-- Rules R30, R205 and R214: while a fault stands, no instruction but RESET changes anything of the block, so no operation
clears a fault. -/
def Obligations.FaultedBlockChangesOnlyByReset : Prop :=
  ∀ (i : Instr) (s t : State), s.blk.faulted = true → i ≠ .reset → exec i s = .next t →
    t.blk = s.blk ∧ t.env.writes = s.env.writes ∧ t.env.line = s.env.line

/-- Rules R30, R206 and R207: `TX_FAIL` is set only by ENC.SEND on a `FAIL` of the transport, `RX_OVF` only by a received
byte of class DATA or TERM that finds the buffer full. FRAME and the two replies run these operations, a reply many
bytes in one step, so of a reply it says that the buffer is bounded (the model's choice, log entry 12). -/
def Obligations.FaultsComeOnlyFrom : Prop :=
  ∀ (i : Instr) (s t : State), exec i s = .next t →
    (s.blk.txFail = false → t.blk.txFail = true →
      ((∃ p, i = .encSend p) ∨ ∃ p m, i = .frame p m) ∧ s.env.nextTxAnswer = .fail)
    ∧ (s.blk.rxOvf = false → t.blk.rxOvf = true →
      ((∃ b, i = .rxData b) ∨ i = .rxTerm) ∧ s.params.rxBufMax = some s.blk.rxBuf.length
      ∨ (i = .replyEmpty ∨ ∃ reg unit ctl mant tail, i = .replyValue reg unit ctl mant tail)
        ∧ s.params.rxBufMax ≠ none)

/-- The "set by" column of rule R20's table: a component of the block changes only by an operation of its row, by RESET,
or by a row that runs such operations (log entry 12). -/
def Obligations.ComponentsAreSetOnlyBy : Prop :=
  ∀ (i : Instr) (s t : State), exec i s = .next t → i ≠ .reset →
    let reply : Prop := i = .replyEmpty ∨ ∃ reg unit ctl mant tail, i = .replyValue reg unit ctl mant tail
    let send : Prop := (∃ p, i = .encSend p) ∨ ∃ p m, i = .frame p m
    let rx : Prop := i = .rxResync ∨ i = .rxTerm ∨ (∃ b, i = .rxData b) ∨ i = .rxTimeout
    (t.blk.crc ≠ s.blk.crc →
      i = .crcClr ∨ (∃ b, i = .crcBit b) ∨ (∃ v, i = .crcByte v) ∨ send ∨ i = .rxTerm ∨ reply)
    ∧ (t.blk.txBuf ≠ s.blk.txBuf → (∃ v, i = .encPush v) ∨ send ∨ ∃ id, i = .reqRead id)
    ∧ (t.blk.decState ≠ s.blk.decState → i = .decArm ∨ rx ∨ reply)
    ∧ (t.blk.rxBuf ≠ s.blk.rxBuf → i = .decArm ∨ rx ∨ reply)
    ∧ (t.blk.pl ≠ s.blk.pl → i = .decArm ∨ i = .rxTerm ∨ reply)
    ∧ (t.blk.missingEsc ≠ s.blk.missingEsc → i = .decArm ∨ i = .rxTerm ∨ reply)
    ∧ (t.blk.crcErr ≠ s.blk.crcErr → i = .decArm ∨ i = .rxTerm ∨ reply)
    ∧ (t.blk.faulted ≠ s.blk.faulted → send ∨ i = .rxTerm ∨ (∃ b, i = .rxData b) ∨ reply)
    ∧ (t.blk.decResult ≠ s.blk.decResult → i = .decArm ∨ i = .rxTerm ∨ i = .rxTimeout ∨ reply)
    ∧ (t.blk.unpOutcome ≠ s.blk.unpOutcome → i = .decArm ∨ i = .unpDecode ∨ reply)
    ∧ (t.blk.value ≠ s.blk.value → i = .decArm ∨ i = .unpDecode ∨ reply)

/-- Rule R219's last sentence: only RX.TIMEOUT, a terminator, overflow or RESET leaves `DEC_ACC` (a reply row brings its own
terminator, log entry 12). -/
def Obligations.ReceiveIsLeftOnlyBy : Prop :=
  ∀ (i : Instr) (s t : State), s.blk.decState = .acc → exec i s = .next t → t.blk.decState = .idle →
    i = .rxTimeout ∨ i = .rxTerm
    ∨ (∃ b, i = .rxData b) ∧ s.params.rxBufMax = some s.blk.rxBuf.length ∧ t.blk.rxOvf = true
    ∨ i = .reset ∨ i = .replyEmpty ∨ ∃ reg unit ctl mant tail, i = .replyValue reg unit ctl mant tail

/-- Rules R51 and R59: a step of an operation of rule R91 takes at most the next symbol, and only when the block listens,
and writes to the transport only when it runs ENC.SEND, one frame. -/
def Obligations.StreamsMoveInOrder : Prop :=
  ∀ s t : State, step s = .next t → (∀ f bs rest, s.env.ops ≠ .item f bs :: rest) →
    (t.env.syms = s.env.syms ∨ s.listening ∧ ∃ x, s.env.syms = x :: t.env.syms)
    ∧ (t.env.writes = s.env.writes ∧ t.env.line = s.env.line
      ∨ ∃ w rest p frame a, s.env.ops = .word w :: rest ∧ decodeCmd w = .encSend p
        ∧ t.env.writes = (frame, a) :: s.env.writes)

/-- Rules R7, R8 and R42's last sentence: no step changes a parameter. -/
def Obligations.ParametersNeverChange : Prop :=
  ∀ s t : State, step s = .next t → t.params = s.params

/-- The relations of rule R37, and those stated beside them (`Block.Inv`), hold after reset. -/
def Obligations.ResetMeetsTheRelations : Prop := State.reset.Inv

/-- Rule R37: the relations (a) to (g), legal parameters, the capacities (rules R20, R50), a faultless receive (rule R209) and an
outcome that is what `unpack` gives of the payload still there are kept by every step from every state that has
them. -/
def Obligations.EveryStepKeepsTheRelations : Prop :=
  ∀ s t : State, s.Inv → step s = .next t → t.Inv

/-! ## The status port -/

/-- Rule R40, register by register: the numbers 0 to 12; STATUS, UNIT and EXP bit by bit, with the codes of rules R31 and R34
that STATUS shows, no reserved code among them; the lengths, and the byte registers with 0 past the end. -/
def Obligations.StatusPortPacking : Prop :=
  ∀ (b : Block) (i : Nat),
    [StatusReg.crc, .status, .txLen, .plLen, .plByte i, .regEcho, .unit, .mantLen, .exp, .mantByte i, .rxLen, .rxByte i,
      .txByte i].map StatusReg.number = List.range 13
    ∧ DecResult.none.code = 0#2 ∧ DecResult.noFrame.code = 1#2 ∧ DecResult.frame.code = 2#2
    ∧ (∀ r : DecResult, r.code ≠ 3#2)
    ∧ UnpOutcome.none.code = 0#3 ∧ UnpOutcome.noResponse.code = 1#3 ∧ UnpOutcome.badHeader.code = 2#3
    ∧ UnpOutcome.emptyReply.code = 3#3 ∧ UnpOutcome.malformed.code = 4#3 ∧ UnpOutcome.value.code = 5#3
    ∧ (∀ o : UnpOutcome, o.code ≠ 6#3 ∧ o.code ≠ 7#3)
    ∧ b.readStatus .crc = b.crc.toNat
    ∧ b.readStatus .status =
      (if b.decState = .acc then 1 else 0) + 2 * b.decResult.code.toNat + 8 * b.missingEsc.toNat + 16 * b.crcErr.toNat
        + 32 * b.unpOutcome.code.toNat + 256 * b.txFail.toNat + 512 * b.rxOvf.toNat
    ∧ b.readStatus .txLen = b.txBuf.length
    ∧ b.readStatus .plLen = b.pl.length
    ∧ b.readStatus (.plByte i) = (if h : i < b.pl.length then b.pl[i].toNat else 0)
    ∧ b.readStatus .regEcho = b.value.regEcho.toNat
    ∧ b.readStatus .unit = b.value.unit.toNat + 256 * b.value.unitKnown.toNat
    ∧ b.readStatus .mantLen = b.value.mantLen.toNat
    ∧ b.readStatus .exp =
      b.value.expCtrl.toNat + 256 * b.value.sign.toNat + 512 * (b.value.expCtrl.getLsbD 6).toNat
        + 1024 * (b.value.expCtrl.toNat % 64)
    ∧ (b.unpOutcome = .value → i < b.value.mantLen.toNat → b.readStatus (.mantByte i) = (byteAt b.pl (7 + i)).toNat)
    ∧ (b.unpOutcome ≠ .value ∨ b.value.mantLen.toNat ≤ i → b.readStatus (.mantByte i) = 0)
    ∧ b.readStatus .rxLen = b.rxBuf.length
    ∧ b.readStatus (.rxByte i) = (if h : i < b.rxBuf.length then b.rxBuf[i].toNat else 0)
    ∧ b.readStatus (.txByte i) = (if h : i < b.txBuf.length then b.txBuf[i].toNat else 0)

/-- Rules R35 and R40 together: in every state with the relations and a value, the mantissa bytes the status port shows are
the big-endian digits of `mant`. -/
def Obligations.MantBytesSpellTheMantissa : Prop :=
  ∀ s : State, s.Inv → s.blk.unpOutcome = .value →
    s.blk.value.mant = ∑ k ∈ Finset.range s.blk.value.mantLen.toNat,
      s.blk.readStatus (.mantByte k) * 256 ^ (s.blk.value.mantLen.toNat - 1 - k)
end

