-- ==== Sys2Proof/Laws/Bytes.lean ====
section
/-! SUPPORT. The small lemmas of the functions on byte sequences. -/

namespace Sys2Proof.Machine

@[simp] theorem be16_length (v : Word) : (be16 v).length = 2 := rfl

@[simp] theorem crcFrom_nil (c : Word) : crcFrom c [] = c := rfl

@[simp] theorem crcFrom_cons (c : Word) (v : Byte) (s : List Byte) :
    crcFrom c (v :: s) = crcFrom (crcByteStep c v) s := rfl

theorem crcFrom_append (c : Word) (s t : List Byte) : crcFrom c (s ++ t) = crcFrom (crcFrom c s) t :=
  List.foldl_append

@[simp] theorem stuff_nil : stuff [] = [] := rfl

@[simp] theorem stuff_cons (b : Byte) (s : List Byte) : stuff (b :: s) = esc b ++ stuff s := by
  simp [stuff]

theorem stuff_append (s t : List Byte) : stuff (s ++ t) = stuff s ++ stuff t := by
  simp [stuff]

theorem inEscSet_iff (b : Byte) :
    inEscSet b = true ↔ b = 0x06#8 ∨ b = 0x0D#8 ∨ b = 0x1B#8 ∨ b = 0x40#8 ∨ b = 0x80#8 := by
  simp [inEscSet, or_assoc]

/-- Every byte as one of five escape bytes or a literal. -/
theorem esc_of_inEscSet {b : Byte} (h : inEscSet b = true) : esc b = escPair b := by simp [esc, h]

theorem esc_of_not_inEscSet {b : Byte} (h : inEscSet b = false) : esc b = [b] := by simp [esc, h]

/-- A byte's escape form: itself, when it is outside the Escape Table and so no marker, or the marker and its complement. -/
theorem esc_cases (b : Byte) :
    (inEscSet b = false ∧ esc b = [b] ∧ b ≠ 0x1B#8) ∨ (inEscSet b = true ∧ esc b = [0x1B#8, b ^^^ 0xFF#8]) := by
  cases h : inEscSet b with
  | false => exact .inl ⟨rfl, esc_of_not_inEscSet h, by rintro rfl; simp [inEscSet] at h⟩
  | true => exact .inr ⟨rfl, esc_of_inEscSet h⟩

/-- The scan copies a byte that is no marker. -/
theorem scan_literal {b c : Byte} (rest : List Byte) (h : b ≠ 0x1B#8) :
    scan (b :: c :: rest) = (b :: (scan (c :: rest)).1, (scan (c :: rest)).2) := by
  rw [scan]; simp [Config.escMark, h]

/-- The scan takes the byte after a marker, complemented. -/
theorem scan_marker (c : Byte) (rest : List Byte) :
    scan (0x1B#8 :: c :: rest) = ((c ^^^ 0xFF#8) :: (scan rest).1, !inEscSet (c ^^^ 0xFF#8) || (scan rest).2) := by
  rw [scan]; simp [Config.escMark, Config.escXor]

/-- What the scan puts out is at least one byte shorter than what it reads, whose last byte is the terminator. -/
theorem scan_length_le (l : List Byte) : (scan l).1.length ≤ l.length - 1 := by
  induction l using scan.induct with
  | case1 => simp [scan]
  | case2 => simp [scan]
  | case3 b c rest h ih => simp [scan, h] at ih ⊢; omega
  | case4 b c rest h ih => simp [scan, h] at ih ⊢; omega

/-- The number of a byte sequence, first byte first. -/
theorem benat_cons (b : Byte) (s : List Byte) : benat (b :: s) = b.toNat * 256 ^ s.length + benat s := by
  have acc : ∀ (s : List Byte) (a : Nat), s.foldl (fun acc b => acc * 256 + b.toNat) a = a * 256 ^ s.length + benat s := by
    intro s
    induction s with
    | nil => intro a; simp [benat]
    | cons b s ih =>
      intro a
      simp only [benat, List.foldl_cons, List.length_cons]
      rw [ih, ih (0 * 256 + b.toNat)]; ring
  rw [benat, List.foldl_cons, acc]; simp

end Sys2Proof.Machine
end

