-- ==== Sys2Proof/Laws/State.lean ====
section
/-! SUPPORT. One lemma per field per update: what each named update of the state leaves in each field. -/

namespace Sys2Proof.Machine


@[simp] theorem State.onBlock_blk (f : Block → Block) (s : State) : (s.onBlock f).blk = f s.blk := rfl
@[simp] theorem State.onBlock_env (f : Block → Block) (s : State) : (s.onBlock f).env = s.env := rfl
@[simp] theorem State.onBlock_work (f : Block → Block) (s : State) : (s.onBlock f).work = s.work := rfl
@[simp] theorem State.onBlock_params (f : Block → Block) (s : State) : (s.onBlock f).params = s.params := rfl

@[simp] theorem State.answer_blk (a : PortAnswer) (s : State) : (s.answer a).blk = s.blk := rfl
@[simp] theorem State.answer_env_ops (a : PortAnswer) (s : State) : (s.answer a).env.ops = s.env.ops := rfl
@[simp] theorem State.answer_env_syms (a : PortAnswer) (s : State) : (s.answer a).env.syms = s.env.syms := rfl
@[simp] theorem State.answer_env_turns (a : PortAnswer) (s : State) : (s.answer a).env.turns = s.env.turns := rfl
@[simp] theorem State.answer_env_txAnswers (a : PortAnswer) (s : State) : (s.answer a).env.txAnswers = s.env.txAnswers := rfl
@[simp] theorem State.answer_env_draws (a : PortAnswer) (s : State) : (s.answer a).env.draws = s.env.draws := rfl
@[simp] theorem State.answer_env_answers (a : PortAnswer) (s : State) : (s.answer a).env.answers = a :: s.env.answers := rfl
@[simp] theorem State.answer_env_writes (a : PortAnswer) (s : State) : (s.answer a).env.writes = s.env.writes := rfl
@[simp] theorem State.answer_env_line (a : PortAnswer) (s : State) : (s.answer a).env.line = s.env.line := rfl
@[simp] theorem State.answer_work (a : PortAnswer) (s : State) : (s.answer a).work = s.work := rfl
@[simp] theorem State.answer_params (a : PortAnswer) (s : State) : (s.answer a).params = s.params := rfl

@[simp] theorem State.keepSymbols_blk (xs : List Symbol) (s : State) : (s.keepSymbols xs).blk = s.blk := rfl
@[simp] theorem State.keepSymbols_env_ops (xs : List Symbol) (s : State) : (s.keepSymbols xs).env.ops = s.env.ops := rfl
@[simp] theorem State.keepSymbols_env_syms (xs : List Symbol) (s : State) : (s.keepSymbols xs).env.syms = xs ++ s.env.syms := rfl
@[simp] theorem State.keepSymbols_env_turns (xs : List Symbol) (s : State) : (s.keepSymbols xs).env.turns = s.env.turns := rfl
@[simp] theorem State.keepSymbols_env_txAnswers (xs : List Symbol) (s : State) : (s.keepSymbols xs).env.txAnswers = s.env.txAnswers := rfl
@[simp] theorem State.keepSymbols_env_draws (xs : List Symbol) (s : State) : (s.keepSymbols xs).env.draws = s.env.draws := rfl
@[simp] theorem State.keepSymbols_env_answers (xs : List Symbol) (s : State) : (s.keepSymbols xs).env.answers = s.env.answers := rfl
@[simp] theorem State.keepSymbols_env_writes (xs : List Symbol) (s : State) : (s.keepSymbols xs).env.writes = s.env.writes := rfl
@[simp] theorem State.keepSymbols_env_line (xs : List Symbol) (s : State) : (s.keepSymbols xs).env.line = s.env.line := rfl
@[simp] theorem State.keepSymbols_work (xs : List Symbol) (s : State) : (s.keepSymbols xs).work = s.work := rfl
@[simp] theorem State.keepSymbols_params (xs : List Symbol) (s : State) : (s.keepSymbols xs).params = s.params := rfl

@[simp] theorem State.emit_blk (bs : List Byte) (s : State) : (s.emit bs).blk = s.blk := rfl
@[simp] theorem State.emit_env (bs : List Byte) (s : State) : (s.emit bs).env = s.env := rfl
@[simp] theorem State.emit_work_out (bs : List Byte) (s : State) : (s.emit bs).work.out = s.work.out ++ bs := rfl
@[simp] theorem State.emit_work_u (bs : List Byte) (s : State) : (s.emit bs).work.u = s.work.u := rfl
@[simp] theorem State.emit_work_me (bs : List Byte) (s : State) : (s.emit bs).work.me = s.work.me := rfl
@[simp] theorem State.emit_work_expCtrl (bs : List Byte) (s : State) : (s.emit bs).work.expCtrl = s.work.expCtrl := rfl
@[simp] theorem State.emit_work_sign (bs : List Byte) (s : State) : (s.emit bs).work.sign = s.work.sign := rfl
@[simp] theorem State.emit_work_exp (bs : List Byte) (s : State) : (s.emit bs).work.exp = s.work.exp := rfl
@[simp] theorem State.emit_params (bs : List Byte) (s : State) : (s.emit bs).params = s.params := rfl

@[simp] theorem State.scanned_blk (v : Byte) (me : Bool) (s : State) : (s.scanned v me).blk = s.blk := rfl
@[simp] theorem State.scanned_env (v : Byte) (me : Bool) (s : State) : (s.scanned v me).env = s.env := rfl
@[simp] theorem State.scanned_work_out (v : Byte) (me : Bool) (s : State) : (s.scanned v me).work.out = s.work.out := rfl
@[simp] theorem State.scanned_work_u (v : Byte) (me : Bool) (s : State) : (s.scanned v me).work.u = s.work.u ++ [v] := rfl
@[simp] theorem State.scanned_work_me (v : Byte) (me : Bool) (s : State) : (s.scanned v me).work.me = (s.work.me || me) := rfl
@[simp] theorem State.scanned_work_expCtrl (v : Byte) (me : Bool) (s : State) : (s.scanned v me).work.expCtrl = s.work.expCtrl := rfl
@[simp] theorem State.scanned_work_sign (v : Byte) (me : Bool) (s : State) : (s.scanned v me).work.sign = s.work.sign := rfl
@[simp] theorem State.scanned_work_exp (v : Byte) (me : Bool) (s : State) : (s.scanned v me).work.exp = s.work.exp := rfl
@[simp] theorem State.scanned_params (v : Byte) (me : Bool) (s : State) : (s.scanned v me).params = s.params := rfl

@[simp] theorem State.takeTurn_blk (s : State) : (s.takeTurn).blk = s.blk := rfl
@[simp] theorem State.takeTurn_env_ops (s : State) : (s.takeTurn).env.ops = s.env.ops := rfl
@[simp] theorem State.takeTurn_env_syms (s : State) : (s.takeTurn).env.syms = s.env.syms := rfl
@[simp] theorem State.takeTurn_env_turns (s : State) : (s.takeTurn).env.turns = s.env.turns.tail := rfl
@[simp] theorem State.takeTurn_env_txAnswers (s : State) : (s.takeTurn).env.txAnswers = s.env.txAnswers := rfl
@[simp] theorem State.takeTurn_env_draws (s : State) : (s.takeTurn).env.draws = s.env.draws := rfl
@[simp] theorem State.takeTurn_env_answers (s : State) : (s.takeTurn).env.answers = s.env.answers := rfl
@[simp] theorem State.takeTurn_env_writes (s : State) : (s.takeTurn).env.writes = s.env.writes := rfl
@[simp] theorem State.takeTurn_env_line (s : State) : (s.takeTurn).env.line = s.env.line := rfl
@[simp] theorem State.takeTurn_work (s : State) : (s.takeTurn).work = s.work := rfl
@[simp] theorem State.takeTurn_params (s : State) : (s.takeTurn).params = s.params := rfl

@[simp] theorem State.withOps_blk (xs : List HostInput) (s : State) : (s.withOps xs).blk = s.blk := rfl
@[simp] theorem State.withOps_env_ops (xs : List HostInput) (s : State) : (s.withOps xs).env.ops = xs := rfl
@[simp] theorem State.withOps_env_syms (xs : List HostInput) (s : State) : (s.withOps xs).env.syms = s.env.syms := rfl
@[simp] theorem State.withOps_env_turns (xs : List HostInput) (s : State) : (s.withOps xs).env.turns = s.env.turns := rfl
@[simp] theorem State.withOps_env_txAnswers (xs : List HostInput) (s : State) : (s.withOps xs).env.txAnswers = s.env.txAnswers := rfl
@[simp] theorem State.withOps_env_draws (xs : List HostInput) (s : State) : (s.withOps xs).env.draws = s.env.draws := rfl
@[simp] theorem State.withOps_env_answers (xs : List HostInput) (s : State) : (s.withOps xs).env.answers = s.env.answers := rfl
@[simp] theorem State.withOps_env_writes (xs : List HostInput) (s : State) : (s.withOps xs).env.writes = s.env.writes := rfl
@[simp] theorem State.withOps_env_line (xs : List HostInput) (s : State) : (s.withOps xs).env.line = s.env.line := rfl
@[simp] theorem State.withOps_work (xs : List HostInput) (s : State) : (s.withOps xs).work = s.work := rfl
@[simp] theorem State.withOps_params (xs : List HostInput) (s : State) : (s.withOps xs).params = s.params := rfl

@[simp] theorem State.withSyms_blk (xs : List Symbol) (s : State) : (s.withSyms xs).blk = s.blk := rfl
@[simp] theorem State.withSyms_env_ops (xs : List Symbol) (s : State) : (s.withSyms xs).env.ops = s.env.ops := rfl
@[simp] theorem State.withSyms_env_syms (xs : List Symbol) (s : State) : (s.withSyms xs).env.syms = xs := rfl
@[simp] theorem State.withSyms_env_turns (xs : List Symbol) (s : State) : (s.withSyms xs).env.turns = s.env.turns := rfl
@[simp] theorem State.withSyms_env_txAnswers (xs : List Symbol) (s : State) : (s.withSyms xs).env.txAnswers = s.env.txAnswers := rfl
@[simp] theorem State.withSyms_env_draws (xs : List Symbol) (s : State) : (s.withSyms xs).env.draws = s.env.draws := rfl
@[simp] theorem State.withSyms_env_answers (xs : List Symbol) (s : State) : (s.withSyms xs).env.answers = s.env.answers := rfl
@[simp] theorem State.withSyms_env_writes (xs : List Symbol) (s : State) : (s.withSyms xs).env.writes = s.env.writes := rfl
@[simp] theorem State.withSyms_env_line (xs : List Symbol) (s : State) : (s.withSyms xs).env.line = s.env.line := rfl
@[simp] theorem State.withSyms_work (xs : List Symbol) (s : State) : (s.withSyms xs).work = s.work := rfl
@[simp] theorem State.withSyms_params (xs : List Symbol) (s : State) : (s.withSyms xs).params = s.params := rfl

@[simp] theorem Env.txWrite_ops (frame : List Byte) (e : Env) : (e.txWrite frame).ops = e.ops := rfl
@[simp] theorem Env.txWrite_syms (frame : List Byte) (e : Env) : (e.txWrite frame).syms = e.syms := rfl
@[simp] theorem Env.txWrite_turns (frame : List Byte) (e : Env) : (e.txWrite frame).turns = e.turns := rfl
@[simp] theorem Env.txWrite_txAnswers (frame : List Byte) (e : Env) : (e.txWrite frame).txAnswers = e.txAnswers.tail := rfl
@[simp] theorem Env.txWrite_draws (frame : List Byte) (e : Env) : (e.txWrite frame).draws = e.draws + 1 := rfl
@[simp] theorem Env.txWrite_answers (frame : List Byte) (e : Env) : (e.txWrite frame).answers = e.answers := rfl
@[simp] theorem Env.txWrite_writes (frame : List Byte) (e : Env) : (e.txWrite frame).writes = (frame, e.nextTxAnswer) :: e.writes := rfl
@[simp] theorem Env.txWrite_line (frame : List Byte) (e : Env) : (e.txWrite frame).line = e.line ++ e.onLine frame := rfl

@[simp] theorem Block.raise_txFail_crc (b : Block) : (b.raise .txFail).crc = b.crc := rfl
@[simp] theorem Block.raise_txFail_txBuf (b : Block) : (b.raise .txFail).txBuf = b.txBuf := rfl
@[simp] theorem Block.raise_txFail_decState (b : Block) : (b.raise .txFail).decState = b.decState := rfl
@[simp] theorem Block.raise_txFail_rxBuf (b : Block) : (b.raise .txFail).rxBuf = b.rxBuf := rfl
@[simp] theorem Block.raise_txFail_pl (b : Block) : (b.raise .txFail).pl = b.pl := rfl
@[simp] theorem Block.raise_txFail_missingEsc (b : Block) : (b.raise .txFail).missingEsc = b.missingEsc := rfl
@[simp] theorem Block.raise_txFail_crcErr (b : Block) : (b.raise .txFail).crcErr = b.crcErr := rfl
@[simp] theorem Block.raise_txFail_txFail (b : Block) : (b.raise .txFail).txFail = true := rfl
@[simp] theorem Block.raise_txFail_rxOvf (b : Block) : (b.raise .txFail).rxOvf = b.rxOvf := rfl
@[simp] theorem Block.raise_txFail_decResult (b : Block) : (b.raise .txFail).decResult = b.decResult := rfl
@[simp] theorem Block.raise_txFail_unpOutcome (b : Block) : (b.raise .txFail).unpOutcome = b.unpOutcome := rfl
@[simp] theorem Block.raise_txFail_value (b : Block) : (b.raise .txFail).value = b.value := rfl

@[simp] theorem Block.raise_rxOvf_crc (b : Block) : (b.raise .rxOvf).crc = b.crc := rfl
@[simp] theorem Block.raise_rxOvf_txBuf (b : Block) : (b.raise .rxOvf).txBuf = b.txBuf := rfl
@[simp] theorem Block.raise_rxOvf_decState (b : Block) : (b.raise .rxOvf).decState = b.decState := rfl
@[simp] theorem Block.raise_rxOvf_rxBuf (b : Block) : (b.raise .rxOvf).rxBuf = b.rxBuf := rfl
@[simp] theorem Block.raise_rxOvf_pl (b : Block) : (b.raise .rxOvf).pl = b.pl := rfl
@[simp] theorem Block.raise_rxOvf_missingEsc (b : Block) : (b.raise .rxOvf).missingEsc = b.missingEsc := rfl
@[simp] theorem Block.raise_rxOvf_crcErr (b : Block) : (b.raise .rxOvf).crcErr = b.crcErr := rfl
@[simp] theorem Block.raise_rxOvf_txFail (b : Block) : (b.raise .rxOvf).txFail = b.txFail := rfl
@[simp] theorem Block.raise_rxOvf_rxOvf (b : Block) : (b.raise .rxOvf).rxOvf = true := rfl
@[simp] theorem Block.raise_rxOvf_decResult (b : Block) : (b.raise .rxOvf).decResult = b.decResult := rfl
@[simp] theorem Block.raise_rxOvf_unpOutcome (b : Block) : (b.raise .rxOvf).unpOutcome = b.unpOutcome := rfl
@[simp] theorem Block.raise_rxOvf_value (b : Block) : (b.raise .rxOvf).value = b.value := rfl

@[simp] theorem Block.overflow_crc (b : Block) : (b.overflow).crc = b.crc := rfl
@[simp] theorem Block.overflow_txBuf (b : Block) : (b.overflow).txBuf = b.txBuf := rfl
@[simp] theorem Block.overflow_decState (b : Block) : (b.overflow).decState = .idle := rfl
@[simp] theorem Block.overflow_rxBuf (b : Block) : (b.overflow).rxBuf = [] := rfl
@[simp] theorem Block.overflow_pl (b : Block) : (b.overflow).pl = b.pl := rfl
@[simp] theorem Block.overflow_missingEsc (b : Block) : (b.overflow).missingEsc = b.missingEsc := rfl
@[simp] theorem Block.overflow_crcErr (b : Block) : (b.overflow).crcErr = b.crcErr := rfl
@[simp] theorem Block.overflow_txFail (b : Block) : (b.overflow).txFail = b.txFail := rfl
@[simp] theorem Block.overflow_rxOvf (b : Block) : (b.overflow).rxOvf = true := rfl
@[simp] theorem Block.overflow_decResult (b : Block) : (b.overflow).decResult = b.decResult := rfl
@[simp] theorem Block.overflow_unpOutcome (b : Block) : (b.overflow).unpOutcome = b.unpOutcome := rfl
@[simp] theorem Block.overflow_value (b : Block) : (b.overflow).value = b.value := rfl

@[simp] theorem Block.arm_crc (b : Block) : (b.arm).crc = b.crc := rfl
@[simp] theorem Block.arm_txBuf (b : Block) : (b.arm).txBuf = b.txBuf := rfl
@[simp] theorem Block.arm_decState (b : Block) : (b.arm).decState = .acc := rfl
@[simp] theorem Block.arm_rxBuf (b : Block) : (b.arm).rxBuf = [] := rfl
@[simp] theorem Block.arm_pl (b : Block) : (b.arm).pl = [] := rfl
@[simp] theorem Block.arm_missingEsc (b : Block) : (b.arm).missingEsc = false := rfl
@[simp] theorem Block.arm_crcErr (b : Block) : (b.arm).crcErr = false := rfl
@[simp] theorem Block.arm_txFail (b : Block) : (b.arm).txFail = b.txFail := rfl
@[simp] theorem Block.arm_rxOvf (b : Block) : (b.arm).rxOvf = b.rxOvf := rfl
@[simp] theorem Block.arm_decResult (b : Block) : (b.arm).decResult = .none := rfl
@[simp] theorem Block.arm_unpOutcome (b : Block) : (b.arm).unpOutcome = .none := rfl
@[simp] theorem Block.arm_value (b : Block) : (b.arm).value = .zero := rfl

@[simp] theorem Block.rxResync_crc (b : Block) : (b.rxResync).crc = b.crc := rfl
@[simp] theorem Block.rxResync_txBuf (b : Block) : (b.rxResync).txBuf = b.txBuf := rfl
@[simp] theorem Block.rxResync_decState (b : Block) : (b.rxResync).decState = b.decState := rfl
@[simp] theorem Block.rxResync_rxBuf (b : Block) : (b.rxResync).rxBuf = [Config.resync] := rfl
@[simp] theorem Block.rxResync_pl (b : Block) : (b.rxResync).pl = b.pl := rfl
@[simp] theorem Block.rxResync_missingEsc (b : Block) : (b.rxResync).missingEsc = b.missingEsc := rfl
@[simp] theorem Block.rxResync_crcErr (b : Block) : (b.rxResync).crcErr = b.crcErr := rfl
@[simp] theorem Block.rxResync_txFail (b : Block) : (b.rxResync).txFail = b.txFail := rfl
@[simp] theorem Block.rxResync_rxOvf (b : Block) : (b.rxResync).rxOvf = b.rxOvf := rfl
@[simp] theorem Block.rxResync_decResult (b : Block) : (b.rxResync).decResult = b.decResult := rfl
@[simp] theorem Block.rxResync_unpOutcome (b : Block) : (b.rxResync).unpOutcome = b.unpOutcome := rfl
@[simp] theorem Block.rxResync_value (b : Block) : (b.rxResync).value = b.value := rfl

@[simp] theorem Block.rxTimeout_crc (b : Block) : (b.rxTimeout).crc = b.crc := rfl
@[simp] theorem Block.rxTimeout_txBuf (b : Block) : (b.rxTimeout).txBuf = b.txBuf := rfl
@[simp] theorem Block.rxTimeout_decState (b : Block) : (b.rxTimeout).decState = .idle := rfl
@[simp] theorem Block.rxTimeout_rxBuf (b : Block) : (b.rxTimeout).rxBuf = [] := rfl
@[simp] theorem Block.rxTimeout_pl (b : Block) : (b.rxTimeout).pl = b.pl := rfl
@[simp] theorem Block.rxTimeout_missingEsc (b : Block) : (b.rxTimeout).missingEsc = b.missingEsc := rfl
@[simp] theorem Block.rxTimeout_crcErr (b : Block) : (b.rxTimeout).crcErr = b.crcErr := rfl
@[simp] theorem Block.rxTimeout_txFail (b : Block) : (b.rxTimeout).txFail = b.txFail := rfl
@[simp] theorem Block.rxTimeout_rxOvf (b : Block) : (b.rxTimeout).rxOvf = b.rxOvf := rfl
@[simp] theorem Block.rxTimeout_decResult (b : Block) : (b.rxTimeout).decResult = .noFrame := rfl
@[simp] theorem Block.rxTimeout_unpOutcome (b : Block) : (b.rxTimeout).unpOutcome = b.unpOutcome := rfl
@[simp] theorem Block.rxTimeout_value (b : Block) : (b.rxTimeout).value = b.value := rfl

@[simp] theorem Block.unpacked_crc (b : Block) : (b.unpacked).crc = b.crc := rfl
@[simp] theorem Block.unpacked_txBuf (b : Block) : (b.unpacked).txBuf = b.txBuf := rfl
@[simp] theorem Block.unpacked_decState (b : Block) : (b.unpacked).decState = b.decState := rfl
@[simp] theorem Block.unpacked_rxBuf (b : Block) : (b.unpacked).rxBuf = b.rxBuf := rfl
@[simp] theorem Block.unpacked_pl (b : Block) : (b.unpacked).pl = b.pl := rfl
@[simp] theorem Block.unpacked_missingEsc (b : Block) : (b.unpacked).missingEsc = b.missingEsc := rfl
@[simp] theorem Block.unpacked_crcErr (b : Block) : (b.unpacked).crcErr = b.crcErr := rfl
@[simp] theorem Block.unpacked_txFail (b : Block) : (b.unpacked).txFail = b.txFail := rfl
@[simp] theorem Block.unpacked_rxOvf (b : Block) : (b.unpacked).rxOvf = b.rxOvf := rfl
@[simp] theorem Block.unpacked_decResult (b : Block) : (b.unpacked).decResult = b.decResult := rfl
@[simp] theorem Block.unpacked_unpOutcome (b : Block) : (b.unpacked).unpOutcome = (unpack b.decResult b.pl).1 := rfl
@[simp] theorem Block.unpacked_value (b : Block) : (b.unpacked).value = (unpack b.decResult b.pl).2 := rfl

@[simp] theorem Block.afterWrite_ok (b : Block) : b.afterWrite .ok = b := rfl

@[simp] theorem Block.afterWrite_fail (b : Block) : b.afterWrite .fail = b.raise .txFail := rfl

end Sys2Proof.Machine
end

