-- ==== Sys2Proof/Laws/Ops.lean ====
section
/-! SUPPORT. One lemma for each shared operation: everything it can answer. -/

namespace Sys2Proof.Machine

theorem Block.busy_eq_false {b : Block} : b.busy = false ↔ b.faulted = false ∧ b.decState = .idle := by
  cases h : b.decState <;> simp [Block.busy, Block.receiving, h]

theorem Block.pulling_eq_true {b : Block} : b.pulling = true ↔ b.decState = .acc ∧ b.faulted = false := by
  simp [Block.pulling, Block.receiving]

theorem Block.faulted_eq_false {b : Block} : b.faulted = false ↔ b.txFail = false ∧ b.rxOvf = false := by
  simp [Block.faulted]

/-- A ready block takes host operations (rule R209). -/
theorem State.ready_iff {s : State} : s.ready ↔ s.blk.busy = false := Block.busy_eq_false.symm

theorem State.not_ready_iff {s : State} : ¬ s.ready ↔ s.blk.busy = true := by
  rw [State.ready_iff, Bool.not_eq_false]

/-- A listening block pulls symbols (rule R142). -/
theorem State.listening_iff {s : State} : s.listening ↔ s.blk.pulling = true := Block.pulling_eq_true.symm

theorem State.not_listening_iff {s : State} : ¬ s.listening ↔ s.blk.pulling = false := by
  rw [State.listening_iff, Bool.not_eq_true]

theorem full_eq_true {len : Nat} {cap : Option Nat} : full len cap = true ↔ cap = some len := by
  simp [full]

theorem full_eq_false {len : Nat} {cap : Option Nat} : full len cap = false ↔ cap ≠ some len := by
  simp [full]

/-- A host operation that is turned away changes nothing but the port's answer (rule R208). -/
theorem hostOp_rejected {own : Bool} {f : State → State} {s : State} (h : (s.blk.busy || own) = true) :
    hostOp own f s = .next (s.answer .rejected) := by
  simp only [hostOp, h, if_true]

/-- A host operation that is taken does its effect and is answered OK. -/
theorem hostOp_taken {own : Bool} {f : State → State} {s : State} (h : (s.blk.busy || own) = false) :
    hostOp own f s = .next ((f s).answer .ok) := by
  simp [hostOp, h]

/-- Everything a host operation can answer. -/
theorem hostOp_cases {own : Bool} {f : State → State} {s t : State} (h : hostOp own f s = .next t) :
    ((s.blk.busy || own) = true ∧ t = s.answer .rejected) ∨
      (s.blk.busy = false ∧ own = false ∧ t = (f s).answer .ok) := by
  cases hb : (s.blk.busy || own) with
  | true => rw [hostOp_rejected hb] at h; exact .inl ⟨rfl, by injection h with h; exact h.symm⟩
  | false =>
    rw [hostOp_taken hb] at h
    simp only [Bool.or_eq_false_iff] at hb
    exact .inr ⟨hb.1, hb.2, by injection h with h; exact h.symm⟩

/-- A symbol the block pulls has its effect on the block alone. -/
theorem rxOp_pulled {x : Symbol} {f : Params → Block → Block} {s : State} (h : s.blk.pulling = true) :
    rxOp x f s = .next (s.onBlock (f s.params)) := by
  simp only [rxOp, h, if_true]

/-- A symbol the block does not pull stays with the transport (rule R142). -/
theorem rxOp_kept {x : Symbol} {f : Params → Block → Block} {s : State} (h : s.blk.pulling = false) :
    rxOp x f s = .next (s.keepSymbols [x]) := by
  simp [rxOp, h]

/-- Everything a received symbol can do. -/
theorem rxOp_cases {x : Symbol} {f : Params → Block → Block} {s t : State} (h : rxOp x f s = .next t) :
    (s.blk.pulling = true ∧ t = s.onBlock (f s.params)) ∨ (s.blk.pulling = false ∧ t = s.keepSymbols [x]) := by
  cases hp : s.blk.pulling with
  | true => rw [rxOp_pulled hp] at h; exact .inl ⟨rfl, by injection h with h; exact h.symm⟩
  | false => rw [rxOp_kept hp] at h; exact .inr ⟨rfl, by injection h with h; exact h.symm⟩

@[simp] theorem andThen_next (s : State) (f : State → Out) : andThen (.next s) f = f s := rfl

/-- A sequence answers a next state only through a next state of its first part. -/
theorem andThen_eq_next {o : Out} {f : State → Out} {t : State} :
    andThen o f = .next t ↔ ∃ s, o = .next s ∧ f s = .next t := by
  cases o <;> simp [andThen]

theorem andThen_assoc (o : Out) (f g : State → Out) : andThen (andThen o f) g = andThen o fun s => andThen (f s) g := by
  cases o <;> rfl

/-- The line after a write: all of the frame on OK, some prefix of it on FAIL (rules R127, R128). -/
theorem Env.onLine_ok {e : Env} {frame : List Byte} (h : e.nextTxAnswer = .ok) : e.onLine frame = frame := by
  simp [Env.onLine, h]

theorem Env.onLine_fail {e : Env} {frame : List Byte} (h : e.nextTxAnswer = .fail) :
    ∃ k, e.onLine frame = frame.take k := by
  exact ⟨Config.lineOnFail e.draws, by simp [Env.onLine, h]⟩

theorem Env.nextTxAnswer_cons {e : Env} {a : TxAnswer} {rest : List TxAnswer} (h : e.txAnswers = a :: rest) :
    e.nextTxAnswer = a := by
  simp [Env.nextTxAnswer, h]

/-- Everything ENC.PUSH for several bytes can answer is a next state. -/
theorem pushAll_answers_next (vs : List Byte) (s : State) : ∃ t, pushAll vs s = .next t := by
  induction vs generalizing s with
  | nil => exact ⟨s, rfl⟩
  | cons v vs ih => exact ih _

theorem rxByte_answers_next (b : Byte) (s : State) : ∃ t, rxByte b s = .next t := by
  unfold rxByte
  split
  · exact ⟨_, rfl⟩
  · split <;> exact ⟨_, rfl⟩

theorem rxSymbol_answers_next (x : Symbol) (s : State) : ∃ t, rxSymbol x s = .next t := by
  cases x with
  | byte b => exact rxByte_answers_next b s
  | timeout => exact ⟨_, rfl⟩

/-- A symbol is taken by a block that pulls, and the rest are received after it. -/
theorem receive_pulled {x : Symbol} {xs : List Symbol} {s : State} (h : s.blk.pulling = true) :
    receive (x :: xs) s = andThen (rxSymbol x s) (receive xs) := by
  simp only [receive, h, if_true]

/-- From a block that does not pull all symbols stay with the transport. -/
theorem receive_kept {x : Symbol} {xs : List Symbol} {s : State} (h : s.blk.pulling = false) :
    receive (x :: xs) s = .next (s.keepSymbols (x :: xs)) := by
  simp [receive, h]

theorem receive_answers_next (xs : List Symbol) (s : State) : ∃ t, receive xs s = .next t := by
  induction xs generalizing s with
  | nil => exact ⟨s, rfl⟩
  | cons x xs ih =>
    unfold receive
    split
    · obtain ⟨u, hu⟩ := rxSymbol_answers_next x s
      rw [hu]; exact ih u
    · exact ⟨_, rfl⟩

end Sys2Proof.Machine
end

