-- ==== Sys2Proof/Laws/PerInstr.lean ====
section
/-! SUPPORT. A statement about every instruction, one lemma per constructor: the encoder puts an instruction into the
format of its row of spec/opcode_table.json (rule R70). -/

namespace Sys2Proof.Laws.EncodeFormat

/-- The encoding of an instruction stands in the format of its row. -/
def Statement (i : Instr) : Prop := (encode i).format = i.format

theorem crcClr : Statement .crcClr := rfl

theorem crcBit (b : Bool) : Statement (.crcBit b) := rfl

theorem crcByte (v : Byte) : Statement (.crcByte v) := rfl

theorem encPush (v : Byte) : Statement (.encPush v) := rfl

theorem encSend (p : Byte) : Statement (.encSend p) := rfl

theorem decArm : Statement .decArm := rfl

theorem unpDecode : Statement .unpDecode := rfl

theorem reserved0 : Statement .reserved0 := rfl

theorem reserved8 : Statement .reserved8 := rfl

theorem reserved9 : Statement .reserved9 := rfl

theorem reservedA : Statement .reservedA := rfl

theorem reservedB : Statement .reservedB := rfl

theorem reservedC : Statement .reservedC := rfl

theorem reservedD : Statement .reservedD := rfl

theorem reservedE : Statement .reservedE := rfl

theorem reservedF : Statement .reservedF := rfl

theorem rxResync : Statement .rxResync := rfl

theorem rxTerm : Statement .rxTerm := rfl

theorem rxData (b : Byte) : Statement (.rxData b) := rfl

theorem rxTimeout : Statement .rxTimeout := rfl

theorem reset : Statement .reset := rfl

theorem txEsc06 : Statement .txEsc06 := rfl

theorem txEsc0D : Statement .txEsc0D := rfl

theorem txEsc1B : Statement .txEsc1B := rfl

theorem txEsc40 : Statement .txEsc40 := rfl

theorem txEsc80 : Statement .txEsc80 := rfl

theorem txLit (b : Byte) : Statement (.txLit b) := rfl

theorem scanPair (x : Byte) : Statement (.scanPair x) := rfl

theorem scanLit (x : Byte) : Statement (.scanLit x) := rfl

theorem frame (p : Byte) (m : List Byte) : Statement (.frame p m) := rfl

theorem reqRead (id : Word) : Statement (.reqRead id) := rfl

theorem replyEmpty : Statement .replyEmpty := rfl

theorem replyValue (reg : Word) (unit ctl : Byte) (mant tail : List Byte) : Statement (.replyValue reg unit ctl mant tail) := rfl

theorem expCtrl (c : Byte) : Statement (.expCtrl c) := rfl

end Sys2Proof.Laws.EncodeFormat
end

