-- ==== Sys2Proof/Tests/Slice0.lean ====
section
/-! SUPPORT. The model's own tests: ill-formed terms are refused, words written out from the spec's encodings decode,
single steps give the spec's own numbers (the vectors of 95_test_vectors.md, by their ids), and the witnesses: for every
statement with hypotheses, a concrete state and operands that meet them. -/

namespace Sys2Proof.Tests

open Machine

/-! ## Helpers -/

/-- The block after an outcome, when it is a next state. -/
def blkOf : Out → Option Block
  | .next s => some s.blk
  | _ => none

/-- The state after an outcome, when it is a next state. -/
def nextOf : Out → Option State
  | .next s => some s
  | _ => none

/-- A ready state with this `tx_buf` and capacity. -/
def staged (m : List Byte) (cap : Option Nat) : State :=
  { State.reset with blk := { Block.reset with txBuf := m }, params := { txBufMax := cap, rxBufMax := none } }

/-- A ready state with this `crc`. -/
def withCrc (c : Word) : State := { State.reset with blk := { Block.reset with crc := c } }

/-- A state in a receive with this buffer and capacity. -/
def listening (buf : List Byte) (cap : Option Nat) : State :=
  { State.reset with
    blk := { Block.reset with decState := .acc, rxBuf := buf }, params := { txBufMax := none, rxBufMax := cap } }

/-- A ready state after a receive that gave this payload. -/
def received (p : List Byte) : State :=
  { State.reset with blk := { Block.reset with decResult := .frame, pl := p } }

/-- A faulted state. -/
def failed : State := { State.reset with blk := { Block.reset with txFail := true } }

/-- The transport's answer to the next write. -/
def answering (a : TxAnswer) (s : State) : State := { s with env := { s.env with txAnswers := [a] } }

/-- The host's operations and the turns to come. -/
def issuing (ops : List HostInput) (turns : List Agent) (s : State) : State :=
  { s with env := { s.env with ops := ops, turns := turns } }

/-- U1's payload: register 0x003C, kWh, 100. -/
def payloadU1 : List Byte :=
  [0x3F#8, 0x10#8, 0x00#8, 0x3C#8, 0x02#8, 0x04#8, 0x00#8, 0x00#8, 0x00#8, 0x00#8, 0x64#8]

/-! ## Well-formedness: one ill-formed term for each check (rules R74, R75, R76, R9) -/

theorem test_wf_refuses_rx_data_of_resync : (Instr.rxData 0x40#8).wf = false := by decide

theorem test_wf_refuses_rx_data_of_term : (Instr.rxData 0x0D#8).wf = false := by decide

theorem test_wf_refuses_tx_lit_of_each_escape_byte :
    ([0x06#8, 0x0D#8, 0x1B#8, 0x40#8, 0x80#8].all fun b => !(Instr.txLit b).wf) = true := by decide

theorem test_wf_refuses_scan_lit_of_marker : (Instr.scanLit 0x1B#8).wf = false := by decide

theorem test_wf_refuses_mantissa_of_256_bytes :
    (Instr.replyValue 0#16 0#8 0#8 (List.replicate 256 0#8) []).wf = false := by decide +kernel

/-! ## Decoding: words written out from rules R71 to R93 -/

theorem test_decode_command_codes :
    decode (.host (.word 0b000100000000#12)) = .ok .crcClr
    ∧ decode (.host (.word 0b001000000001#12)) = .ok (.crcBit true)
    ∧ decode (.host (.word 0b001000000000#12)) = .ok (.crcBit false)
    ∧ decode (.host (.word 0b001100111111#12)) = .ok (.crcByte 0x3F#8)
    ∧ decode (.host (.word 0b010000111100#12)) = .ok (.encPush 0x3C#8)
    ∧ decode (.host (.word 0b010110000000#12)) = .ok (.encSend 0x80#8)
    ∧ decode (.host (.word 0b011000000000#12)) = .ok .decArm
    ∧ decode (.host (.word 0b011100000000#12)) = .ok .unpDecode := by decide +kernel

/-- Rule R92 and U2: the bits of `arg` that a row does not name are ignored. -/
theorem test_decode_ignored_bits :
    decode (.host (.word 0x1FF#12)) = .ok .crcClr
    ∧ decode (.host (.word 0x2FE#12)) = .ok (.crcBit false)
    ∧ decode (.host (.word 0x2FF#12)) = .ok (.crcBit true)
    ∧ decode (.host (.word 0x6FF#12)) = .ok .decArm
    ∧ decode (.host (.word 0x7FF#12)) = .ok .unpDecode := by decide +kernel

theorem test_decode_reserved_codes :
    decode (.host (.word 0x000#12)) = .ok .reserved0
    ∧ decode (.host (.word 0x0FF#12)) = .ok .reserved0
    ∧ decode (.host (.word 0x8FF#12)) = .ok .reserved8
    ∧ decode (.host (.word 0x900#12)) = .ok .reserved9
    ∧ decode (.host (.word 0xA00#12)) = .ok .reservedA
    ∧ decode (.host (.word 0xB00#12)) = .ok .reservedB
    ∧ decode (.host (.word 0xC00#12)) = .ok .reservedC
    ∧ decode (.host (.word 0xD00#12)) = .ok .reservedD
    ∧ decode (.host (.word 0xE00#12)) = .ok .reservedE
    ∧ decode (.host (.word 0xFFF#12)) = .ok .reservedF := by decide +kernel

/-- Rules R75 and R97: 1B, 06 and 80 are plain data on the way in. -/
theorem test_decode_received_symbols :
    decode (.line (.byte 0b01000000#8)) = .ok .rxResync
    ∧ decode (.line (.byte 0b00001101#8)) = .ok .rxTerm
    ∧ decode (.line (.byte 0x1B#8)) = .ok (.rxData 0x1B#8)
    ∧ decode (.line (.byte 0x06#8)) = .ok (.rxData 0x06#8)
    ∧ decode (.line (.byte 0x80#8)) = .ok (.rxData 0x80#8)
    ∧ decode (.line .timeout) = .ok .rxTimeout
    ∧ decode (.host .resetPin) = .ok .reset := by decide

/-- Rule R74. -/
theorem test_decode_wire_tx :
    decode (.host (.item .wireTx [0x06#8])) = .ok .txEsc06
    ∧ decode (.host (.item .wireTx [0x0D#8])) = .ok .txEsc0D
    ∧ decode (.host (.item .wireTx [0x1B#8])) = .ok .txEsc1B
    ∧ decode (.host (.item .wireTx [0x40#8])) = .ok .txEsc40
    ∧ decode (.host (.item .wireTx [0x80#8])) = .ok .txEsc80
    ∧ decode (.host (.item .wireTx [0xF2#8])) = .ok (.txLit 0xF2#8)
    ∧ decode (.host (.item .wireTx [])) = .error .txItemLength := by decide

/-- Rule R76: a pair takes two bytes, the second may be the marker's own value (D15). -/
theorem test_decode_wire_scan :
    decode (.host (.item .wireScan [0x1B#8, 0x1B#8])) = .ok (.scanPair 0x1B#8)
    ∧ decode (.host (.item .wireScan [0x3F#8])) = .ok (.scanLit 0x3F#8)
    ∧ decode (.host (.item .wireScan [0x1B#8])) = .error .scanItem
    ∧ decode (.host (.item .wireScan [0x3F#8, 0x10#8])) = .error .scanItem := by decide

/-- Vectors E7 (the CRC's high byte stuffed), E9 (empty payload) and E14 (prefix 0D); E2 with one CRC bit wrong, and with
an unstuffed 80, is no encoding. -/
theorem test_decode_frames :
    decode (.host (.item .frame [0x80#8, 0x3F#8, 0x10#8, 0x01#8, 0x00#8, 0x1B#8, 0xBF#8, 0x1B#8, 0xF2#8, 0x44#8, 0x0D#8]))
      = .ok (.frame 0x80#8 [0x3F#8, 0x10#8, 0x01#8, 0x00#8, 0x40#8])
    ∧ decode (.host (.item .frame [0x80#8, 0x00#8, 0x00#8, 0x0D#8])) = .ok (.frame 0x80#8 [])
    ∧ decode (.host (.item .frame [0x0D#8, 0x01#8, 0x10#8, 0x21#8, 0x0D#8])) = .ok (.frame 0x0D#8 [0x01#8])
    ∧ decode (.host (.item .frame [0x80#8, 0x01#8, 0x10#8, 0x20#8, 0x0D#8])) = .error .frameCrc
    ∧ decode (.host (.item .frame [0x80#8, 0x80#8, 0x00#8, 0x00#8, 0x0D#8])) = .error .frameStuffing
    ∧ decode (.host (.item .frame [0x80#8])) = .error .frameEnds := by decide +kernel

/-- Rules R83, R85, R86 and R87, from S11, U4, U19 and S5. -/
theorem test_decode_payloads :
    decode (.host (.item .payload [0x3F#8, 0x10#8, 0x01#8, 0x03#8, 0xE9#8])) = .ok (.reqRead 0x03E9#16)
    ∧ decode (.host (.item .payload [0x3F#8, 0x10#8])) = .ok .replyEmpty
    ∧ decode (.host (.item .payload [0x3F#8, 0x10#8, 0x00#8, 0x3C#8, 0x02#8, 0x01#8, 0x00#8, 0x07#8, 0x09#8, 0x09#8]))
      = .ok (.replyValue 0x003C#16 0x02#8 0x00#8 [0x07#8] [0x09#8, 0x09#8])
    ∧ decode (.host (.item .payload [0x42#8])) = .ok (.expCtrl 0x42#8)
    ∧ decode (.host (.item .payload [0x3F#8, 0x11#8])) = .error .payloadHeader
    ∧ decode (.host (.item .payload [0x3F#8, 0x10#8, 0x00#8])) = .error .payloadLength
    ∧ decode (.host (.item .payload [0x3F#8, 0x10#8, 0x00#8, 0x3C#8, 0x02#8, 0x04#8, 0x00#8])) = .error .payloadShort := by
  decide

/-- Words of spec/opcode_table.json as it numbers them (log entry 13). -/
theorem test_decode_table_words :
    decodeTableWord 16 0x100 = some .crcClr ∧ decodeTableWord 12 0x200 = some (.crcBit false)
    ∧ decodeTableWord 16 0xF00 = some .reservedF ∧ decodeTableWord 8 0x40 = some .rxResync
    ∧ decodeTableWord 8 0x1B = some .txEsc1B ∧ decodeTableWord 16 0x1BF9 = some (.scanPair 0xF9#8)
    ∧ decodeTableWord 16 0x3F10 = some .replyEmpty ∧ decodeTableWord 40 0x3F1001003C = some (.reqRead 0x003C#16)
    ∧ decodeTableWord 0 0 = none := by decide +kernel

/-! ## Single steps: the CRC unit (vectors C1 to C26, program P6) -/

theorem test_crc_clr : (blkOf (exec .crcClr (withCrc 0xBEEF#16))).map Block.crc = some 0x0000#16 := by decide

theorem test_crc_bit_vectors :
    (blkOf (exec (.crcBit true) (withCrc 0x0000#16))).map Block.crc = some 0x0001#16
    ∧ (blkOf (exec (.crcBit false) (withCrc 0x8000#16))).map Block.crc = some 0x1021#16
    ∧ (blkOf (exec (.crcBit true) (withCrc 0x8000#16))).map Block.crc = some 0x1020#16
    ∧ (blkOf (exec (.crcBit true) (withCrc 0x7FFF#16))).map Block.crc = some 0xFFFF#16
    ∧ (blkOf (exec (.crcBit true) (withCrc 0xFFFF#16))).map Block.crc = some 0xEFDE#16 := by decide +kernel

theorem test_crc_byte_vectors :
    (blkOf (exec (.crcByte 0x80#8) (withCrc 0x0000#16))).map Block.crc = some 0x0080#16
    ∧ (blkOf (exec (.crcByte 0x00#8) (withCrc 0xFFFF#16))).map Block.crc = some 0xE1F0#16
    ∧ (blkOf (exec (.crcByte 0x56#8) (withCrc 0x1234#16))).map Block.crc = some 0x0625#16
    ∧ (blkOf (exec (.crcByte 0xFF#8) (withCrc 0x8000#16))).map Block.crc = some 0x9177#16 := by decide +kernel

theorem test_crc16_and_fcs_of_the_nine_digits :
    crc16 [0x31#8, 0x32#8, 0x33#8, 0x34#8, 0x35#8, 0x36#8, 0x37#8, 0x38#8, 0x39#8] = 0xBEEF#16
    ∧ fcs [0x31#8, 0x32#8, 0x33#8, 0x34#8, 0x35#8, 0x36#8, 0x37#8, 0x38#8, 0x39#8] = 0x31C3#16 := by decide +kernel

/-! ## Single steps: the encoder (vectors E1 to E17, programs P1 and P5) -/

/-- Section 2.2: a push, and the sixth byte on a buffer of five, rejected. -/
theorem test_enc_push :
    (blkOf (exec (.encPush 0x10#8) (staged [0x3F#8] (some 5)))).map Block.txBuf = some [0x3F#8, 0x10#8]
    ∧ (nextOf (exec (.encPush 0x00#8) (staged [0x3F#8, 0x10#8, 0x01#8, 0x00#8, 0x3C#8] (some 5)))).map
      (fun t => (t.blk.txBuf.length, t.env.answers)) = some (5, [.rejected]) := by decide

/-- E4: 0D and 1B in the payload are stuffed, the final 0D is not. -/
theorem test_enc_send_writes_e4 :
    (nextOf (exec (.encSend 0x80#8) (answering .ok (staged [0x3F#8, 0x10#8, 0x01#8, 0x0D#8, 0x1B#8] none)))).map
      (fun t => (t.blk.crc, t.blk.txBuf, t.env.line, t.blk.txFail))
    = some (0x9086#16, [],
        [0x80#8, 0x3F#8, 0x10#8, 0x01#8, 0x1B#8, 0xF2#8, 0x1B#8, 0xE4#8, 0x90#8, 0x86#8, 0x0D#8], false) := by
  decide +kernel

/-- Program P5, step 6: the command is taken and answered OK, the failure is in STATUS bit 8. -/
theorem test_enc_send_fails_as_p5 :
    (nextOf (exec (.encSend 0x80#8) (answering .fail (staged [0x3F#8, 0x10#8, 0x01#8, 0x00#8, 0x3C#8] none)))).map
      (fun t => (t.blk.crc, t.blk.txBuf, t.env.answers, t.blk.readStatus .status))
    = some (0xB25F#16, [], [.ok], 0x0100) := by decide +kernel

/-- S3: the five pairs, and a literal. -/
theorem test_tx_rows :
    (nextOf (exec .txEsc06 State.reset)).map (fun t => t.work.out) = some [0x1B#8, 0xF9#8]
    ∧ (nextOf (exec .txEsc0D State.reset)).map (fun t => t.work.out) = some [0x1B#8, 0xF2#8]
    ∧ (nextOf (exec .txEsc1B State.reset)).map (fun t => t.work.out) = some [0x1B#8, 0xE4#8]
    ∧ (nextOf (exec .txEsc40 State.reset)).map (fun t => t.work.out) = some [0x1B#8, 0xBF#8]
    ∧ (nextOf (exec .txEsc80 State.reset)).map (fun t => t.work.out) = some [0x1B#8, 0x7F#8]
    ∧ (nextOf (exec (.txLit 0xF2#8) State.reset)).map (fun t => t.work.out) = some [0xF2#8] := by decide +kernel

/-- E6: a CRC byte is stuffed; the frame is written by the row FRAME as by the encoder. -/
theorem test_frame_writes_e6 :
    (nextOf (exec (.frame 0x80#8 [0x3F#8, 0x10#8, 0x01#8, 0x00#8, 0x00#8]) (answering .ok State.reset))).map
      (fun t => (t.blk.crc, t.env.writes))
    = some (0x4580#16,
        [([0x80#8, 0x3F#8, 0x10#8, 0x01#8, 0x00#8, 0x00#8, 0x45#8, 0x1B#8, 0x7F#8, 0x0D#8], .ok)]) := by decide +kernel

/-- Program P4, steps 12 to 16. -/
theorem test_req_read_stages :
    (blkOf (exec (.reqRead 0x03E9#16) State.reset)).map Block.txBuf
      = some [0x3F#8, 0x10#8, 0x01#8, 0x03#8, 0xE9#8] := by decide +kernel

/-! ## Single steps: the decoder (vectors D1 to D26, programs P7 and P8) -/

/-- Program P7, step 4: STATUS reads 1; program P7, step 7: arming while armed is rejected and restarts nothing. -/
theorem test_dec_arm :
    (blkOf (exec .decArm (received payloadU1))).map (fun b => (b.readStatus .status, b.pl)) = some (1, [])
    ∧ (nextOf (exec .decArm (listening [0x40#8] none))).map (fun t => (t.blk.rxBuf, t.env.answers))
      = some ([0x40#8], [.rejected]) := by decide +kernel

/-- Section 2.3, overflow: a full buffer of four takes the restart without a fault. -/
theorem test_rx_resync_always_fits :
    (blkOf (exec .rxResync (listening [0x01#8, 0x02#8, 0x03#8, 0x04#8] (some 4)))).map (fun b => (b.rxBuf, b.rxOvf))
      = some ([0x40#8], false) := by decide

/-- Program P8, step 10: the byte is dropped and STATUS reads 0x0200; one step earlier the byte fits. -/
theorem test_rx_data_overflows_as_p8 :
    (blkOf (exec (.rxData 0x9A#8) (listening [0x40#8, 0x3F#8, 0x10#8, 0x07#8] (some 4)))).map
      (fun b => (b.readStatus .status, b.rxBuf)) = some (0x0200, [])
    ∧ (blkOf (exec (.rxData 0x07#8) (listening [0x40#8, 0x3F#8, 0x10#8] (some 4)))).map Block.rxBuf
      = some [0x40#8, 0x3F#8, 0x10#8, 0x07#8] := by decide +kernel

/-- D6: all five pairs un-escaped. -/
theorem test_rx_term_d6 :
    (blkOf (exec .rxTerm (listening [0x40#8, 0x3F#8, 0x10#8, 0x00#8, 0x1B#8, 0xBF#8, 0x21#8, 0x04#8, 0x41#8, 0x1B#8,
      0x7F#8, 0x1B#8, 0xF2#8, 0x1B#8, 0xF9#8, 0x1B#8, 0xE4#8, 0xEB#8, 0xA8#8] none))).map
      (fun b => (b.pl, b.missingEsc, b.crcErr, b.crc))
    = some ([0x3F#8, 0x10#8, 0x00#8, 0x40#8, 0x21#8, 0x04#8, 0x41#8, 0x80#8, 0x0D#8, 0x06#8, 0x1B#8], false, false,
        0x0000#16) := by decide +kernel

/-- D15: the pair `1B 1B`; D19: one unescaped byte; D16: a lone terminator. -/
theorem test_rx_term_short_frames :
    (blkOf (exec .rxTerm (listening [0x40#8, 0x3F#8, 0x1B#8, 0x1B#8] none))).map
      (fun b => (b.pl, b.missingEsc, b.crcErr, b.crc)) = some ([], true, true, 0x3FE4#16)
    ∧ (blkOf (exec .rxTerm (listening [0x40#8, 0x05#8] none))).map
      (fun b => (b.pl, b.missingEsc, b.crcErr, b.crc)) = some ([], false, true, 0x0005#16)
    ∧ (blkOf (exec .rxTerm (listening [] none))).map (fun b => (b.pl, b.crcErr, b.decResult))
      = some ([], false, .frame) := by decide +kernel

/-- D10: a timeout midway, and `crc` not touched. -/
theorem test_rx_timeout :
    (blkOf (exec .rxTimeout (listening [0x40#8, 0x3F#8, 0x10#8] none))).map
      (fun b => (b.decResult, b.rxBuf, b.decState)) = some (.noFrame, [], .idle) := by decide

/-- D13's pair `1B 55` gives AA and the diagnostic; `1B F9` gives 06 without; a literal gives itself. -/
theorem test_scan_rows :
    (nextOf (exec (.scanPair 0x55#8) State.reset)).map (fun t => (t.work.u, t.work.me)) = some ([0xAA#8], true)
    ∧ (nextOf (exec (.scanPair 0xF9#8) State.reset)).map (fun t => (t.work.u, t.work.me)) = some ([0x06#8], false)
    ∧ (nextOf (exec (.scanLit 0x3F#8) State.reset)).map (fun t => (t.work.u, t.work.me)) = some ([0x3F#8], false) := by
  decide

/-! ## Single steps: the unpacker (vectors U1 to U23) -/

/-- U16: register 1, kWh, -12.345; STATUS as in program P2 without the frame's diagnostics. -/
theorem test_unp_decode_u16 :
    (blkOf (exec .unpDecode (received [0x3F#8, 0x10#8, 0x00#8, 0x01#8, 0x02#8, 0x02#8, 0xC3#8, 0x30#8, 0x39#8]))).map
      (fun b => (b.unpOutcome, b.value, b.readStatus .status))
    = some (.value,
        { regEcho := 0x0001#16, unit := 2#8, unitKnown := true, mantLen := 2#8, expCtrl := 0xC3#8, sign := true,
          exp := -3, mant := 12345 }, 0x00A4) := by decide +kernel

/-- U8 to U11c, U21 to U23 and U5: the outcomes without a value, header before length. -/
theorem test_unp_decode_outcomes :
    (unpack .frame []).1 = .malformed ∧ (unpack .frame [0x3F#8]).1 = .malformed
    ∧ (unpack .frame [0x3F#8, 0x10#8, 0x00#8]).1 = .malformed
    ∧ (unpack .frame [0x3F#8, 0x10#8, 0x00#8, 0x3C#8, 0x02#8, 0x04#8, 0x00#8, 0x00#8, 0x00#8, 0x00#8]).1 = .malformed
    ∧ (unpack .frame [0x10#8, 0x3F#8]).1 = .badHeader ∧ (unpack .frame [0x3F#8, 0x11#8]).1 = .badHeader
    ∧ (unpack .frame [0x3F#8, 0x10#8, 0x01#8, 0x00#8, 0x3C#8]).1 = .malformed
    ∧ (unpack .noFrame []).1 = .noResponse ∧ (unpack .frame [0x3F#8, 0x10#8]).1 = .emptyReply := by decide

/-- S7 on the wire: vector D4 with U4. -/
theorem test_reply_empty :
    (blkOf (exec .replyEmpty State.reset)).map (fun b => (b.unpOutcome, b.pl, b.crc))
      = some (.emptyReply, [0x3F#8, 0x10#8], 0x0000#16) := by decide +kernel

/-- S6 and S10: D3 with U3, unit 51 without a label. -/
theorem test_reply_value_u3 :
    (blkOf (exec (.replyValue 0x03E9#16 0x33#8 0x81#8 [0x0A#8] []) State.reset)).map
      (fun b => (b.unpOutcome, b.value, b.crcErr, b.missingEsc))
    = some (.value,
        { regEcho := 0x03E9#16, unit := 51#8, unitKnown := false, mantLen := 1#8, expCtrl := 0x81#8, sign := true,
          exp := 1, mant := 10 }, false, false) := by decide +kernel

/-- U2, U14 and U15: the exponent-control bytes 42, 7F and C0. -/
theorem test_exp_ctrl :
    (nextOf (exec (.expCtrl 0x42#8) State.reset)).map (fun t => (t.work.sign, t.work.exp)) = some (false, -2)
    ∧ (nextOf (exec (.expCtrl 0x7F#8) State.reset)).map (fun t => (t.work.sign, t.work.exp)) = some (false, -63)
    ∧ (nextOf (exec (.expCtrl 0xC0#8) State.reset)).map (fun t => (t.work.sign, t.work.exp)) = some (true, 0) := by
  decide +kernel

/-- S4: the source's first example, number and label. -/
theorem test_value_of_s4 :
    (blkOf (exec .unpDecode (received payloadU1))).map
      (fun b => (b.value.rational, unitLabel b.value.unit, b.readStatus .unit, b.readStatus .exp))
      = some (100, some "kWh", 0x0102, 0x0000) := by decide +kernel

/-- Programs P4 (steps 10 and 11) and P7 (step 10), and S7, S8: STATUS shows the codes of rules R31 and R34. -/
theorem test_status_codes :
    (blkOf (exec .rxTimeout (listening [0x40#8, 0x3F#8] none))).map (fun b => b.readStatus .status) = some 0x0002
    ∧ (blkOf (exec .unpDecode { State.reset with blk := { Block.reset with decResult := .noFrame } })).map
      (fun b => b.readStatus .status) = some 0x0022
    ∧ (blkOf (exec .unpDecode (received []))).map (fun b => b.readStatus .status) = some 0x0084
    ∧ (blkOf (exec .unpDecode (received [0x3F#8, 0x11#8]))).map (fun b => b.readStatus .status) = some 0x0044
    ∧ (blkOf (exec .unpDecode (received [0x3F#8, 0x10#8]))).map (fun b => b.readStatus .status) = some 0x0064 := by
  decide +kernel

/-! ## Single steps: reserved words, reset, the step -/

/-- Program P7, steps 2 and 3. -/
theorem test_reserved_words :
    (nextOf (exec .reserved0 State.reset)).map (fun t => (t.blk, t.env.answers)) = some (Block.reset, [.rejected])
    ∧ (nextOf (exec .reserved8 (withCrc 0x1234#16))).map (fun t => (t.blk.crc, t.env.answers))
      = some (0x1234#16, [.rejected]) := by decide

/-- Program P5, step 11: RESET clears a fault. -/
theorem test_reset_pin : blkOf (exec .reset failed) = some Block.reset := by decide

/-- A placed command word is fetched, decoded and run by the very next step. -/
theorem test_step_runs_a_placed_word :
    (blkOf (step (State.reset.withFetchWord 16 0x43F))).map Block.txBuf = some [0x3F#8]
    ∧ (blkOf (step (State.reset.withFetchWord 8 0x40))).map Block.rxBuf = some [0x40#8]
    ∧ (blkOf (step (State.reset.withFetchWord 16 0x3F10))).map Block.unpOutcome = some .emptyReply := by decide +kernel

/-! ## Witnesses: concrete states and operands that meet the hypotheses of the statements -/

/-- CommandWordReadsAsItsCode and ReservedCodesAreRejected: codes at both ends of the reserved range. -/
theorem test_witness_command_codes :
    (0x0FF#12).extractLsb' 8 4 = 0x0#4 ∧ 0x8#4 ≤ (0x800#12).extractLsb' 8 4 ∧ 0x8#4 ≤ (0xFFF#12).extractLsb' 8 4
    ∧ (0x7FF#12).extractLsb' 8 4 = 0x7#4 := by decide

/-- A ready state, and the two ways not to be ready: every clause on `ready`. -/
theorem test_witness_ready : State.reset.ready ∧ ¬ failed.ready ∧ ¬ (listening [] none).ready :=
  ⟨⟨rfl, rfl⟩, State.not_ready_iff.2 (by decide), State.not_ready_iff.2 (by decide)⟩

/-- A listening state, and the two ways not to listen. -/
theorem test_witness_listening :
    (listening [0x40#8] (some 1)).listening ∧ ¬ State.reset.listening
    ∧ ¬ ({ failed with blk := { failed.blk with decState := .acc } } : State).listening :=
  ⟨⟨rfl, rfl⟩, State.not_listening_iff.2 (by decide), State.not_listening_iff.2 (by decide)⟩

/-- StepRunsTheDecodedInstruction: both clauses. -/
theorem test_witness_step_runs :
    (let s := issuing [.word 0x100#12] [.host] State.reset
     s.turn = .host ∧ s.env.ops = [.word 0x100#12] ∧ decode (.host (.word 0x100#12)) = .ok .crcClr)
    ∧ (let s := { listening [] none with env := { Env.empty with syms := [.timeout] } }
       s.turn = .transport ∧ s.listening ∧ s.env.syms = [.timeout] ∧ decode (.line .timeout) = .ok .rxTimeout) :=
  ⟨⟨rfl, rfl, by decide⟩, rfl, ⟨rfl, rfl⟩, rfl, rfl⟩

/-- StepWithNothingToRun: each clause. -/
theorem test_witness_step_with_nothing :
    ((listening [] none).env.turns = [] ∧ (listening [] none).listening)
    ∧ (State.reset.env.turns = [] ∧ ¬ State.reset.listening ∧ State.reset.turn = .host ∧ State.reset.env.ops = [])
    ∧ ((issuing [] [.transport] State.reset).turn = .transport ∧ ¬ (issuing [] [.transport] State.reset).listening)
    ∧ ((listening [] none).turn = .transport ∧ (listening [] none).env.syms = [])
    ∧ (decode (.host (.item .payload [])) = .error .payloadLength
      ∧ (issuing [.item .payload []] [] State.reset).turn = .host) :=
  ⟨⟨rfl, rfl, rfl⟩, ⟨rfl, State.not_listening_iff.2 (by decide), rfl, rfl⟩, ⟨rfl, State.not_listening_iff.2 (by decide)⟩, ⟨rfl, rfl⟩, by decide, rfl⟩

/-- DecodeOfEncodeIsTheInstruction: operands at the ends of what the encoding admits. -/
theorem test_witness_well_formed :
    ([Instr.rxData 0x00#8, .rxData 0xFF#8, .rxData 0x0C#8, .rxData 0x41#8, .txLit 0x00#8, .txLit 0x7F#8, .scanLit 0x1A#8,
      .scanPair 0x1B#8, .crcBit true, .crcByte 0xFF#8, .encPush 0xFF#8, .encSend 0x0D#8, .frame 0x0D#8 [],
      .reqRead 0xFFFF#16, .replyValue 0xFFFF#16 0xFF#8 0xFF#8 (List.replicate 255 0xFF#8) [0x0D#8],
      .replyValue 0#16 0#8 0#8 [] [], .expCtrl 0xFF#8].all Instr.wf) = true := by decide +kernel

/-- CrcProperties: clauses (b) at length two, (d), (f) and (h) at both ends of a byte. -/
theorem test_witness_crc_properties :
    [0xFF#8, 0xFF#8].length ≤ 2 ∧ [0x3F#8, 0x10#8].length = [0x01#8, 0x02#8].length
    ∧ crc16 ([0x01#8] ++ 0x10#8 :: [0x21#8]) = 0#16 ∧ 0 < 8 ∧ 7 < 8 := by decide +kernel

/-- EncPushStagesOneByte: the last byte that fits and the first that does not. -/
theorem test_witness_enc_push :
    (staged (List.replicate 4 0#8) (some 5)).ready
    ∧ (staged (List.replicate 4 0#8) (some 5)).params.txBufMax ≠ some (staged (List.replicate 4 0#8) (some 5)).blk.txBuf.length
    ∧ (staged (List.replicate 5 0#8) (some 5)).params.txBufMax = some (staged (List.replicate 5 0#8) (some 5)).blk.txBuf.length :=
  ⟨⟨rfl, rfl⟩, by decide, rfl⟩

/-- EncSendWritesTheFrame: both answers of the transport occur. -/
theorem test_witness_tx_answers :
    (answering .ok State.reset).ready ∧ (answering .ok State.reset).env.nextTxAnswer = .ok
    ∧ (answering .fail State.reset).ready ∧ (answering .fail State.reset).env.nextTxAnswer = .fail :=
  ⟨⟨rfl, rfl⟩, rfl, ⟨rfl, rfl⟩, rfl⟩

/-- FrameShape: E3's frame has a marker inside, at index 3 of its body, and a prefix other than 0D. -/
theorem test_witness_frame_shape :
    (0x80#8 : Byte) ≠ 0x0D#8
    ∧ (stuff ([0x3F#8, 0x10#8, 0x01#8, 0x06#8, 0x80#8] ++ be16 (fcs [0x3F#8, 0x10#8, 0x01#8, 0x06#8, 0x80#8])))[3]?
      = some 0x1B#8 := by decide +kernel

/-- FrameRowWritesEncode and RequestIsStaged: a payload that just fits the smallest legal capacity. -/
theorem test_witness_frame_row :
    (staged [] (some 5)).ready ∧ (staged [] (some 5)).blk.txBuf = []
    ∧ (∀ n, (staged [] (some 5)).params.txBufMax = some n → (requestPayload 0x003C#16).length ≤ n)
    ∧ (staged [] (some 5)).params.legal = true :=
  ⟨⟨rfl, rfl⟩, rfl, fun n h => by cases h; decide, rfl⟩

/-- DataByteIsAppendedOrOverflows and TermByteEndsTheFrame: one byte of room, and none. -/
theorem test_witness_receive_room :
    (listening [0x40#8] (some 2)).listening
    ∧ (listening [0x40#8] (some 2)).params.rxBufMax ≠ some (listening [0x40#8] (some 2)).blk.rxBuf.length
    ∧ (listening [0x40#8] (some 1)).params.rxBufMax = some (listening [0x40#8] (some 1)).blk.rxBuf.length :=
  ⟨⟨rfl, rfl⟩, by decide, rfl⟩

/-- UnpulledSymbolStaysWithTheTransport. -/
theorem test_witness_unpulled : ¬ State.reset.listening ∧ decode (.line (.byte 0x40#8)) = .ok .rxResync :=
  ⟨State.not_listening_iff.2 (by decide), rfl⟩

/-- UnescapeIsTheLoop: the least fuel. -/
theorem test_witness_loop_fuel : [0x40#8, 0x1B#8, 0x0D#8].length ≤ 3 := by decide

/-- DanglingEscapeGivesF2. -/
theorem test_witness_dangling :
    (listening [0x40#8, 0x3F#8, 0x10#8, 0x1B#8] none).listening
    ∧ (listening [0x40#8, 0x3F#8, 0x10#8, 0x1B#8] none).params.rxBufMax = none
    ∧ (listening [0x40#8, 0x3F#8, 0x10#8, 0x1B#8] none).blk.rxBuf = [0x40#8, 0x3F#8, 0x10#8, 0x1B#8] :=
  ⟨⟨rfl, rfl⟩, rfl, rfl⟩

/-- RoundTripGivesThePayloadBack and EmptyReplyIsReported: a buffer of exactly the frame's six bytes. -/
theorem test_witness_round_trip :
    ({ State.reset with params := { txBufMax := none, rxBufMax := some 6 } } : State).ready ∧ (0x40#8 : Byte) ≠ 0x0D#8
    ∧ (∀ n, (some 6 : Option Nat) = some n → (encodeFrame 0x40#8 emptyPayload).length ≤ n) ∧ 6 ≤ 6 :=
  ⟨⟨rfl, rfl⟩, by decide, fun n h => by cases h; decide +kernel, le_refl 6⟩

/-- UnpackReportsOneOutcome: a state for each clause, at the boundary lengths 1, 2, 3, 6, 7 and 10. -/
theorem test_witness_unpack_clauses :
    State.reset.blk.decResult = .none
    ∧ ({ State.reset with blk := { Block.reset with decResult := .noFrame } } : State).ready
    ∧ (received [0x3F#8]).ready ∧ (received [0x3F#8]).blk.decResult = .frame ∧ [0x3F#8].length < 2
    ∧ ¬ (byteAt [0x3F#8, 0x11#8] 0 = 0x3F#8 ∧ byteAt [0x3F#8, 0x11#8] 1 = 0x10#8)
    ∧ (byteAt payloadU1 0 = 0x3F#8 ∧ byteAt payloadU1 1 = 0x10#8) ∧ (payloadU1.take 2).length = 2
    ∧ 2 < (payloadU1.take 3).length ∧ (payloadU1.take 6).length < 7
    ∧ 7 ≤ (payloadU1.take 7).length ∧ (payloadU1.take 10).length < 7 + (byteAt payloadU1 5).toNat :=
  ⟨rfl, ⟨rfl, rfl⟩, ⟨rfl, rfl⟩, rfl, by decide, by decide, by decide, by decide, by decide, by decide, by decide,
    by decide⟩

/-- UnpackGivesTheFields: U1, and U18 with an empty mantissa at the least length. -/
theorem test_witness_unpack_value :
    (received payloadU1).ready ∧ (received payloadU1).blk.decResult = .frame ∧ byteAt payloadU1 0 = 0x3F#8
    ∧ byteAt payloadU1 1 = 0x10#8 ∧ 7 + (byteAt payloadU1 5).toNat ≤ payloadU1.length
    ∧ 7 + (byteAt [0x3F#8, 0x10#8, 0x00#8, 0x3C#8, 0x02#8, 0x00#8, 0x00#8] 5).toNat ≤ 7 :=
  ⟨⟨rfl, rfl⟩, rfl, by decide, by decide, by decide, by decide⟩

/-- UnpackReadsOnlyTheResult: two states that differ in the diagnostics and the residue. -/
theorem test_witness_unpack_twice :
    let s := received payloadU1
    let s' := { s with blk := { s.blk with crc := 1#16, crcErr := true, missingEsc := true } }
    s.ready ∧ s'.ready ∧ s.blk.decResult = s'.blk.decResult ∧ s.blk.pl = s'.blk.pl ∧ s.blk.decResult ≠ .none :=
  ⟨⟨rfl, rfl⟩, ⟨rfl, rfl⟩, rfl, rfl, by decide⟩

/-- ExpCtrlIsSignAndMagnitude: both exponent signs, at magnitudes 0 and 63. -/
theorem test_witness_exp_ctrl :
    (0x3F#8).getLsbD 6 = false ∧ (0x80#8).getLsbD 6 = false ∧ (0x40#8).getLsbD 6 = true ∧ (0xFF#8).getLsbD 6 = true := by
  decide

/-- ValueIsTheExactRational: S5's and S6's fields, and a zero mantissa. -/
theorem test_witness_value_fields :
    (fieldsOf [0x3F#8, 0x10#8, 0x00#8, 0x56#8, 0x25#8, 0x02#8, 0x42#8, 0x01#8, 0xF4#8]).mant = 500
    ∧ (fieldsOf [0x3F#8, 0x10#8, 0x03#8, 0xE9#8, 0x33#8, 0x01#8, 0x81#8, 0x0A#8]).mant = 10
    ∧ ValueFields.zero.mant = 0 := by decide +kernel

/-- UnknownUnitHasNoLabel: codes 51, 65 and 255, and a block that holds a value. -/
theorem test_witness_units :
    (51#8 : Byte).toNat = 51 ∧ 64 < (65#8 : Byte).toNat ∧ 64 < (255#8 : Byte).toNat
    ∧ (blkOf (exec .unpDecode (received payloadU1))).map Block.unpOutcome = some .value := by decide +kernel

/-- ValueReplyIsUnpacked: the longest mantissa, and a buffer that the frame just fits. -/
theorem test_witness_value_reply :
    State.reset.ready ∧ (List.replicate 255 0x64#8 : List Byte).length ≤ 255
    ∧ ∀ n, (some 12 : Option Nat) = some n →
      (encodeFrame 0x40#8 (valuePayload 0x03E9#16 0x33#8 0x81#8 [0x0A#8] [])).length ≤ n :=
  ⟨⟨rfl, rfl⟩, le_of_eq List.length_replicate, fun n h => by cases h; decide +kernel⟩

/-- ReadRegisterEndToEnd: both clauses, with the reply of U3 in a buffer it just fits, and two bytes before a timeout. -/
theorem test_witness_read_register :
    (let s : State := { answering .ok State.reset with params := { txBufMax := some 5, rxBufMax := some 12 } }
     s.ready ∧ s.blk.txBuf = [] ∧ s.params.legal = true ∧ s.env.nextTxAnswer = .ok)
    ∧ (0x40#8 : Byte) ≠ 0x0D#8 ∧ [0x0A#8].length ≤ 255
    ∧ (encodeFrame 0x40#8 (valuePayload 0x03E9#16 0x33#8 0x81#8 [0x0A#8] [])).length = 12
    ∧ 0x0D#8 ∉ [0x40#8, 0x3F#8] ∧ [0x40#8, 0x3F#8].length ≤ 12 :=
  ⟨⟨⟨rfl, rfl⟩, rfl, rfl, rfl⟩, by decide, by decide, by decide +kernel, by decide, by decide⟩

/-- FaultedBlockChangesOnlyByReset. -/
theorem test_witness_faulted :
    failed.blk.faulted = true ∧ Instr.decArm ≠ .reset ∧ (nextOf (exec .decArm failed)).isSome = true := by decide

/-- FaultsComeOnlyFrom: each fault is set somewhere. -/
theorem test_witness_faults_are_set :
    (blkOf (exec (.encSend 0x80#8) (answering .fail State.reset))).map Block.txFail = some true
    ∧ (blkOf (exec .rxTerm (listening [0x40#8] (some 1)))).map Block.rxOvf = some true
    ∧ (blkOf (exec (.rxData 0#8) (listening [0x40#8] (some 1)))).map Block.rxOvf = some true
    ∧ (blkOf (exec .replyEmpty { State.reset with params := { txBufMax := none, rxBufMax := some 5 } })).map Block.rxOvf
      = some true := by decide +kernel

/-- ComponentsAreSetOnlyBy: for every component an operation of its row that changes it. -/
theorem test_witness_components_change :
    (blkOf (exec .crcClr (withCrc 1#16))).map Block.crc ≠ some (withCrc 1#16).blk.crc
    ∧ (blkOf (exec (.encPush 0#8) State.reset)).map Block.txBuf ≠ some State.reset.blk.txBuf
    ∧ (blkOf (exec .decArm State.reset)).map Block.decState ≠ some State.reset.blk.decState
    ∧ (blkOf (exec .rxResync (listening [] none))).map Block.rxBuf ≠ some []
    ∧ (blkOf (exec .decArm (received payloadU1))).map Block.pl ≠ some payloadU1
    ∧ (blkOf (exec .rxTerm (listening [0x40#8, 0x1B#8, 0x55#8] none))).map (fun b => (b.missingEsc, b.crcErr))
      = some (true, true)
    ∧ (blkOf (exec .rxTimeout (listening [] none))).map Block.decResult ≠ some .none
    ∧ (blkOf (exec .unpDecode (received payloadU1))).map (fun b => (b.unpOutcome, b.value))
      ≠ some (.none, ValueFields.zero) := by decide +kernel

/-- ReceiveIsLeftOnlyBy: a receive is left by a timeout and by an overflow. -/
theorem test_witness_receive_is_left :
    (blkOf (exec .rxTimeout (listening [] none))).map Block.decState = some .idle
    ∧ (blkOf (exec (.rxData 0x9A#8) (listening [0x40#8] (some 1)))).map Block.decState = some .idle := by decide

/-- StreamsMoveInOrder and ParametersNeverChange: a step that takes a symbol, and one that writes a frame. -/
theorem test_witness_streams :
    (nextOf (step { listening [] none with env := { Env.empty with syms := [.byte 0x40#8, .timeout] } })).map
      (fun t => t.env.syms) = some [.timeout]
    ∧ (nextOf (step (issuing [.word 0x580#12] [] (answering .ok State.reset)))).map (fun t => t.env.writes)
      = some [([0x80#8, 0x00#8, 0x00#8, 0x0D#8], .ok)] := by decide +kernel

/-- EveryStepKeepsTheRelations: a state in the middle of a receive, with a full buffer of two, has the relations and a
next step. -/
theorem test_witness_relations :
    State.Inv { listening [0x40#8, 0x3F#8] (some 2) with env := { Env.empty with syms := [.timeout] } }
    ∧ (nextOf (step { listening [0x40#8, 0x3F#8] (some 2) with env := { Env.empty with syms := [.timeout] } })).isSome
      = true := by
  refine ⟨⟨by decide, ?_⟩, by decide⟩
  constructor <;> simp [listening, Block.reset, Config.resync, Config.term, Block.faulted]

/-- StatusPortPacking and MantBytesSpellTheMantissa: a state with a value, the relations, and mantissa bytes to read on
both sides of the last one. -/
theorem test_witness_value_state :
    let s : State :=
      { received payloadU1 with blk := { (received payloadU1).blk with unpOutcome := .value, value := fieldsOf payloadU1 } }
    s.Inv ∧ s.blk.unpOutcome = .value ∧ 3 < s.blk.value.mantLen.toNat ∧ s.blk.value.mantLen.toNat ≤ 4 := by
  refine ⟨⟨by decide, ?_⟩, rfl, by decide, by decide⟩
  constructor <;> simp [received, Block.reset, State.reset, unpack, payloadU1, goodHeader, byteAt, Config.hdr0, Config.hdr1]

end Sys2Proof.Tests
end

section
/-! ## The step: what stands before the block, and everything a step can do

`fetch` and `step` are unfolded here once; proofs about a step cite `step_host`, `step_line` and `step_cases`. -/

namespace Sys2Proof.Machine

variable {s s' t : State} {p : Port} {i : Instr}

/-- On the host's turn its next operation stands before the block, with the turn used up. -/
theorem fetch_host {x : HostInput} {rest : List HostInput} (hturn : s.turn = .host) (hops : s.env.ops = x :: rest) :
    fetch s = .got (.host x) (s.takeTurn.withOps rest) := by
  simp [fetch, hturn, fetchHost, hops]

/-- The host's turn passes when it has nothing to issue (log entry 3). -/
theorem fetch_host_idle (hturn : s.turn = .host) (hops : s.env.ops = []) : fetch s = .idle s.takeTurn := by
  simp [fetch, hturn, fetchHost, hops]

/-- On the transport's turn its next symbol stands before a listening block (rule R142). -/
theorem fetch_line {x : Symbol} {rest : List Symbol} (hturn : s.turn = .transport) (hlisten : s.listening)
    (hsyms : s.env.syms = x :: rest) : fetch s = .got (.line x) (s.takeTurn.withSyms rest) := by
  simp [fetch, hturn, fetchLine, State.listening_iff.1 hlisten, hsyms]

/-- A listening block whose pull is not answered has no step (rule R257). -/
theorem fetch_line_silent (hturn : s.turn = .transport) (hlisten : s.listening) (hsyms : s.env.syms = []) :
    fetch s = .silent := by
  simp [fetch, hturn, fetchLine, State.listening_iff.1 hlisten, hsyms]

/-- The transport's turn passes while the block does not listen (rule R142). -/
theorem fetch_line_idle (hturn : s.turn = .transport) (hdeaf : ¬ s.listening) : fetch s = .idle s.takeTurn := by
  simp [fetch, hturn, fetchLine, State.not_listening_iff.1 hdeaf]

theorem step_of_fetch_idle (h : fetch s = .idle s') : step s = .next s' := by
  simp [step, h]

theorem step_of_fetch_silent (h : fetch s = .silent) : step s = .fault .transportSilent := by
  simp [step, h]

/-- What stands before the block and decodes is run (rule R16). -/
theorem step_of_fetch_got (h : fetch s = .got p s') (hdec : decode p = .ok i) : step s = exec i s' := by
  simp [step, h, hdec]

/-- An item that is no encoding is refused by name (log entry 15). -/
theorem step_of_fetch_error {why : DecodeError} (h : fetch s = .got p s') (hdec : decode p = .error why) :
    step s = .refused (.notAnEncoding why) := by
  simp [step, h, hdec]

/-- On the host's turn a step is `exec` of what the next operation decodes to. -/
theorem step_host {x : HostInput} {rest : List HostInput} (hturn : s.turn = .host) (hops : s.env.ops = x :: rest)
    (hdec : decode (.host x) = .ok i) : step s = exec i (s.takeTurn.withOps rest) :=
  step_of_fetch_got (fetch_host hturn hops) hdec

/-- On the transport's turn a listening block's step is `exec` of what the next symbol decodes to. -/
theorem step_line {x : Symbol} {rest : List Symbol} (hturn : s.turn = .transport) (hlisten : s.listening)
    (hsyms : s.env.syms = x :: rest) (hdec : decode (.line x) = .ok i) :
    step s = exec i (s.takeTurn.withSyms rest) :=
  step_of_fetch_got (fetch_line hturn hlisten hsyms) hdec

/-- A step from a fetched port answers a next state only by running what the port decodes to. -/
theorem exec_of_step_got (hfetch : fetch s = .got p s') (h : step s = .next t) :
    ∃ i, decode p = .ok i ∧ exec i s' = .next t := by
  cases hdec : decode p with
  | ok i => exact ⟨i, rfl, step_of_fetch_got hfetch hdec ▸ h⟩
  | error why => cases (step_of_fetch_error hfetch hdec).symm.trans h

/-- Everything a step that answers a next state can do: the turn passes with nothing to do, the host's next operation is
run, or a listening block runs the transport's next symbol. -/
theorem step_cases (h : step s = .next t) :
    ((s.turn = .host ∧ s.env.ops = [] ∨ s.turn = .transport ∧ ¬ s.listening) ∧ t = s.takeTurn)
    ∨ (∃ x rest i, s.turn = .host ∧ s.env.ops = x :: rest ∧ decode (.host x) = .ok i
        ∧ exec i (s.takeTurn.withOps rest) = .next t)
    ∨ ∃ x rest i, s.turn = .transport ∧ s.listening ∧ s.env.syms = x :: rest ∧ decode (.line x) = .ok i
        ∧ exec i (s.takeTurn.withSyms rest) = .next t := by
  have passes (hidle : fetch s = .idle s.takeTurn) : t = s.takeTurn := by
    rw [step_of_fetch_idle hidle] at h; cases h; rfl
  cases hturn : s.turn with
  | host =>
    cases hops : s.env.ops with
    | nil => exact .inl ⟨.inl ⟨rfl, rfl⟩, passes (fetch_host_idle hturn hops)⟩
    | cons x rest =>
      obtain ⟨i, hdec, hexec⟩ := exec_of_step_got (fetch_host hturn hops) h
      exact .inr (.inl ⟨x, rest, i, rfl, rfl, hdec, hexec⟩)
  | transport =>
    by_cases hlisten : s.listening
    · cases hsyms : s.env.syms with
      | nil => cases (step_of_fetch_silent (fetch_line_silent hturn hlisten hsyms)).symm.trans h
      | cons x rest =>
        obtain ⟨i, hdec, hexec⟩ := exec_of_step_got (fetch_line hturn hlisten hsyms) h
        exact .inr (.inr ⟨x, rest, i, rfl, hlisten, rfl, hdec, hexec⟩)
    · exact .inl ⟨.inr ⟨rfl, hlisten⟩, passes (fetch_line_idle hturn hlisten)⟩

end Sys2Proof.Machine
end

section
/-! ## The capacities: no meaning changes them -/

namespace Sys2Proof.Machine

/-- If the outcome is a next state, its capacities are those of `s`. -/
def ParamsKept (s : State) (o : Out) : Prop := ∀ t, o = .next t → t.params = s.params

theorem paramsKept_next {s t : State} (h : t.params = s.params) : ParamsKept s (.next t) := by
  rintro _ ⟨⟩; exact h

/-- A sequence keeps the capacities when both of its parts do. -/
theorem paramsKept_andThen {s : State} {o : Out} {f : State → Out} (ho : ParamsKept s o)
    (hf : ∀ u, ParamsKept u (f u)) : ParamsKept s (andThen o f) := by
  intro t h
  obtain ⟨u, hu, ht⟩ := andThen_eq_next.1 h
  exact (hf u t ht).trans (ho u hu)

/-- A host operation keeps the capacities when its effect does. -/
theorem paramsKept_hostOp {own : Bool} {f : State → State} {s : State} (hf : (f s).params = s.params) :
    ParamsKept s (hostOp own f s) := by
  intro t h
  obtain ⟨-, rfl⟩ | ⟨-, -, rfl⟩ := hostOp_cases h
  · rfl
  · exact hf

/-- A received symbol changes the block or the transport's list alone. -/
theorem paramsKept_rxOp (x : Symbol) (f : Params → Block → Block) (s : State) : ParamsKept s (rxOp x f s) := by
  intro t h
  obtain ⟨-, rfl⟩ | ⟨-, rfl⟩ := rxOp_cases h <;> rfl

theorem paramsKept_rxSymbol (x : Symbol) (s : State) : ParamsKept s (rxSymbol x s) := by
  cases x with
  | timeout => exact paramsKept_rxOp _ (fun _ => Block.rxTimeout) s
  | byte b =>
    simp only [rxSymbol, rxByte]
    split
    · exact paramsKept_rxOp _ (fun _ => Block.rxResync) s
    · split <;> exact paramsKept_rxOp _ _ s

theorem paramsKept_receive (xs : List Symbol) (s : State) : ParamsKept s (receive xs s) := by
  induction xs generalizing s with
  | nil => exact paramsKept_next rfl
  | cons x xs ih =>
    cases hp : s.blk.pulling with
    | true => rw [receive_pulled hp]; exact paramsKept_andThen (paramsKept_rxSymbol x s) ih
    | false => rw [receive_kept hp]; exact paramsKept_next rfl

theorem paramsKept_pushAll (vs : List Byte) (s : State) : ParamsKept s (pushAll vs s) := by
  induction vs generalizing s with
  | nil => exact paramsKept_next rfl
  | cons v vs ih => exact paramsKept_andThen (paramsKept_hostOp rfl) ih

theorem paramsKept_replyRun (payload : List Byte) (s : State) : ParamsKept s (replyRun payload s) :=
  paramsKept_andThen (paramsKept_andThen (paramsKept_hostOp rfl) (paramsKept_receive _)) fun _ => paramsKept_hostOp rfl

/-- Every instruction keeps the capacities, by the shape of its meaning: a host operation, a received symbol, a direct
next state, or a sequence of these. -/
theorem paramsKept_exec (i : Instr) (s : State) : ParamsKept s (exec i s) := by
  cases i with
  | crcClr | crcBit | crcByte | encPush | encSend | decArm | unpDecode => exact paramsKept_hostOp rfl
  | rxTerm | rxData => exact paramsKept_rxOp _ _ s
  | rxResync => exact paramsKept_rxOp _ (fun _ => Block.rxResync) s
  | rxTimeout => exact paramsKept_rxOp _ (fun _ => Block.rxTimeout) s
  | reserved0 | reserved8 | reserved9 | reservedA | reservedB | reservedC | reservedD | reservedE | reservedF =>
    exact paramsKept_next rfl
  | reset => exact paramsKept_next rfl
  | txEsc06 | txEsc0D | txEsc1B | txEsc40 | txEsc80 | txLit | scanPair | scanLit | expCtrl =>
    exact paramsKept_next rfl
  | frame p m => exact paramsKept_andThen (paramsKept_pushAll m s) fun _ => paramsKept_hostOp rfl
  | reqRead id => exact paramsKept_pushAll (requestPayload id) s
  | replyEmpty => exact paramsKept_replyRun emptyPayload s
  | replyValue reg unit ctl mant tail => exact paramsKept_replyRun (valuePayload reg unit ctl mant tail) s

end Sys2Proof.Machine
end

section
/-! ## The unit labels (rules R12, R182, R183) -/

namespace Sys2Proof.Machine

/-- The codes without a label: 51 and those above 64. -/
theorem unitKnownOf_eq_false {u : Byte} : unitKnownOf u = false ↔ 64 < u.toNat ∨ u.toNat = 51 := by
  simp only [unitKnownOf, Bool.and_eq_false_iff, decide_eq_false_iff_not, not_le, bne_eq_false_iff_eq]
  rfl

theorem unitLabel_of_unknown {u : Byte} (h : unitKnownOf u = false) : unitLabel u = none := by
  simp [unitLabel, h]

/-- A known unit with code 2 is the one whose label the model fixes (log entry 10). -/
theorem unitLabel_of_toNat_eq_two {u : Byte} (hknown : unitKnownOf u = true) (h : u.toNat = 2) :
    unitLabel u = some "kWh" := by
  simp [unitLabel, hknown, h]

theorem Block.decodedValue_of_value {b : Block} (h : b.unpOutcome = .value) :
    b.decodedValue = some (b.value.rational, unitLabel b.value.unit) := by
  simp [Block.decodedValue, h]

end Sys2Proof.Machine
end

section
/-! ## The statements of 00_scope.md -/

namespace Sys2Proof.Machine

/-- Settles O51: a step passes the turn or runs one instruction, and neither changes a capacity (log entry 8). -/
theorem parametersNeverChange : Obligations.ParametersNeverChange := by
  intro s t h
  obtain ⟨-, rfl⟩ | ⟨x, rest, i, -, -, -, hexec⟩ | ⟨x, rest, i, -, -, -, -, hexec⟩ := step_cases h
  · rfl
  · exact paramsKept_exec i (s.takeTurn.withOps rest) t hexec
  · exact paramsKept_exec i (s.takeTurn.withSyms rest) t hexec

/-- Settles O4: the two agents' turns, `step_host` and `step_line` (lists and turns: log entries 1 and 2). -/
theorem stepRunsTheDecodedInstruction : Obligations.StepRunsTheDecodedInstruction :=
  ⟨fun _ _ _ _ hturn hops hdec => step_host hturn hops hdec,
    fun _ _ _ _ hturn hlisten hsyms hdec => step_line hturn hlisten hsyms hdec⟩

/-- Settles O40: the absences and the one label that the model fixes (log entry 10), and the value with its label. -/
theorem unknownUnitHasNoLabel : Obligations.UnknownUnitHasNoLabel :=
  ⟨fun _ h => unitLabel_of_unknown (unitKnownOf_eq_false.2 h),
    unitLabel_of_toNat_eq_two (by decide) rfl,
    fun _ h => Block.decodedValue_of_value h⟩

end Sys2Proof.Machine
end

section
/-! ## What an instruction can do to the block

`Effect` lists once, with their guards, the effects of the single operations that are taken; `Untouched` is what every
turned-away operation, kept symbol and row run by itself leaves. Every instruction but RESET runs a sequence of these
(`path_of_exec`), so what no effect changes no instruction changes (`Path.exists_effect`). -/

namespace Sys2Proof.Machine

variable {s t u : State} {i j : Instr}

/-- RX.TERM with room for the terminator: un-escape, validate, strip (rule R146). -/
def Block.endFrame (b : Block) : Block :=
  let r := unescape (b.rxBuf ++ [Config.term])
  { b with
    crc := crc16 r.1, missingEsc := r.2, crcErr := crcErrOf (crc16 r.1), pl := stripCrc r.1, decResult := .frame,
    rxBuf := [], decState := .idle }

theorem Block.rxTerm_of_full {ps : Params} {b : Block} (h : full b.rxBuf.length ps.rxBufMax = true) :
    b.rxTerm ps = b.overflow := by
  simp [Block.rxTerm, h]

theorem Block.rxTerm_of_room {ps : Params} {b : Block} (h : full b.rxBuf.length ps.rxBufMax = false) :
    b.rxTerm ps = b.endFrame := by
  simp [Block.rxTerm, Block.endFrame, h]

theorem Block.rxData_of_full {ps : Params} {v : Byte} {b : Block} (h : full b.rxBuf.length ps.rxBufMax = true) :
    b.rxData v ps = b.overflow := by
  simp [Block.rxData, h]

theorem Block.rxData_of_room {ps : Params} {v : Byte} {b : Block} (h : full b.rxBuf.length ps.rxBufMax = false) :
    b.rxData v ps = { b with rxBuf := b.rxBuf ++ [v] } := by
  simp [Block.rxData, h]

/-- What a write leaves of the block: the CRC of the staged payload, nothing staged, and `TX_FAIL` on a failure. -/
theorem sendFrame_blk (p : Byte) (s : State) :
    (sendFrame p s).blk =
      { s.blk with
        crc := fcs s.blk.txBuf, txBuf := [], txFail := s.blk.txFail || s.env.nextTxAnswer == .fail } := by
  cases h : s.env.nextTxAnswer <;> simp [sendFrame, h, fcs, Block.raise]

/-- The single operation `j`, taken in state `s`, gives `t`. -/
inductive Effect (s : State) : Instr → State → Prop
  | crcClr (idle : s.blk.busy = false) :
      Effect s .crcClr ((s.onBlock fun b => { b with crc := Config.crcInit }).answer .ok)
  | crcBit (x : Bool) (idle : s.blk.busy = false) :
      Effect s (.crcBit x) ((s.onBlock fun b => { b with crc := crcShift b.crc x }).answer .ok)
  | crcByte (v : Byte) (idle : s.blk.busy = false) :
      Effect s (.crcByte v) ((s.onBlock fun b => { b with crc := crcByteStep b.crc v }).answer .ok)
  | encPush (v : Byte) (idle : s.blk.busy = false) (room : full s.blk.txBuf.length s.params.txBufMax = false) :
      Effect s (.encPush v) ((s.onBlock fun b => { b with txBuf := b.txBuf ++ [v] }).answer .ok)
  | encSend (p : Byte) (idle : s.blk.busy = false) : Effect s (.encSend p) ((sendFrame p s).answer .ok)
  | decArm (idle : s.blk.busy = false) : Effect s .decArm ((s.onBlock Block.arm).answer .ok)
  | unpDecode (idle : s.blk.busy = false) (done : s.blk.decResult ≠ .none) :
      Effect s .unpDecode ((s.onBlock Block.unpacked).answer .ok)
  | rxResync (pulls : s.blk.pulling = true) : Effect s .rxResync (s.onBlock Block.rxResync)
  | rxData (v : Byte) (pulls : s.blk.pulling = true) (room : full s.blk.rxBuf.length s.params.rxBufMax = false) :
      Effect s (.rxData v) (s.onBlock fun b => { b with rxBuf := b.rxBuf ++ [v] })
  | rxDataFull (v : Byte) (pulls : s.blk.pulling = true) (noRoom : s.params.rxBufMax = some s.blk.rxBuf.length) :
      Effect s (.rxData v) (s.onBlock Block.overflow)
  | rxTerm (pulls : s.blk.pulling = true) (room : full s.blk.rxBuf.length s.params.rxBufMax = false) :
      Effect s .rxTerm (s.onBlock Block.endFrame)
  | rxTermFull (pulls : s.blk.pulling = true) (noRoom : s.params.rxBufMax = some s.blk.rxBuf.length) :
      Effect s .rxTerm (s.onBlock Block.overflow)
  | rxTimeout (pulls : s.blk.pulling = true) : Effect s .rxTimeout (s.onBlock Block.rxTimeout)

/-- Nothing of the block, the capacities, the line and the writes differs, nor what the next write is answered. -/
structure Untouched (s t : State) : Prop where
  blk : t.blk = s.blk
  params : t.params = s.params
  writes : t.env.writes = s.env.writes
  line : t.env.line = s.env.line
  nextTxAnswer : t.env.nextTxAnswer = s.env.nextTxAnswer

theorem Untouched.refl (s : State) : Untouched s s := ⟨rfl, rfl, rfl, rfl, rfl⟩

theorem Untouched.trans (h : Untouched s t) (h' : Untouched t u) : Untouched s u :=
  ⟨h'.blk.trans h.blk, h'.params.trans h.params, h'.writes.trans h.writes, h'.line.trans h.line,
    h'.nextTxAnswer.trans h.nextTxAnswer⟩

theorem untouched_answer (a : PortAnswer) (s : State) : Untouched s (s.answer a) := ⟨rfl, rfl, rfl, rfl, rfl⟩

theorem untouched_keepSymbols (xs : List Symbol) (s : State) : Untouched s (s.keepSymbols xs) :=
  ⟨rfl, rfl, rfl, rfl, rfl⟩

/-- A single operation is taken or leaves everything untouched. -/
def Moves (j : Instr) (s t : State) : Prop := Untouched s t ∨ Effect s j t

/-- A host operation, turned away or taken (rule R208). -/
theorem moves_of_hostOp {own : Bool} {f : State → State} (h : hostOp own f s = .next t)
    (taken : s.blk.busy = false → own = false → Effect s j ((f s).answer .ok)) : Moves j s t := by
  obtain ⟨-, rfl⟩ | ⟨hidle, hown, rfl⟩ := hostOp_cases h
  · exact .inl (untouched_answer .rejected s)
  · exact .inr (taken hidle hown)

/-- A received symbol, left with the transport or taken (rule R142). -/
theorem moves_of_rxOp {x : Symbol} {f : Params → Block → Block} (h : rxOp x f s = .next t)
    (taken : s.blk.pulling = true → Effect s j (s.onBlock (f s.params))) : Moves j s t := by
  obtain ⟨hpulls, rfl⟩ | ⟨-, rfl⟩ := rxOp_cases h
  · exact .inr (taken hpulls)
  · exact .inl (untouched_keepSymbols [x] s)

/-- A data byte is appended or overflows the buffer (rules R145, R153). -/
theorem effect_rxData (v : Byte) (hpulls : s.blk.pulling = true) :
    Effect s (.rxData v) (s.onBlock (Block.rxData v s.params)) := by
  cases hfull : full s.blk.rxBuf.length s.params.rxBufMax with
  | true =>
    rw [State.onBlock, Block.rxData_of_full hfull]
    exact .rxDataFull v hpulls (full_eq_true.1 hfull)
  | false =>
    rw [State.onBlock, Block.rxData_of_room hfull]
    exact .rxData v hpulls hfull

/-- A terminator ends the frame or overflows the buffer (rules R146, R153). -/
theorem effect_rxTerm (hpulls : s.blk.pulling = true) : Effect s .rxTerm (s.onBlock (Block.rxTerm s.params)) := by
  cases hfull : full s.blk.rxBuf.length s.params.rxBufMax with
  | true =>
    rw [State.onBlock, Block.rxTerm_of_full hfull]
    exact .rxTermFull hpulls (full_eq_true.1 hfull)
  | false =>
    rw [State.onBlock, Block.rxTerm_of_room hfull]
    exact .rxTerm hpulls hfull

theorem moves_encPush {v : Byte} (h : execEncPush v s = .next t) : Moves (.encPush v) s t :=
  moves_of_hostOp h fun hidle hroom => .encPush v hidle hroom

theorem moves_encSend {p : Byte} (h : execEncSend p s = .next t) : Moves (.encSend p) s t :=
  moves_of_hostOp h fun hidle _ => .encSend p hidle

theorem moves_decArm (h : execDecArm s = .next t) : Moves .decArm s t :=
  moves_of_hostOp h fun hidle _ => .decArm hidle

theorem moves_unpDecode (h : execUnpDecode s = .next t) : Moves .unpDecode s t :=
  moves_of_hostOp h fun hidle hdone => .unpDecode hidle (by simpa using hdone)

theorem moves_rxResync (h : execRxResync s = .next t) : Moves .rxResync s t :=
  moves_of_rxOp (f := fun _ => Block.rxResync) h .rxResync

theorem moves_rxTerm (h : execRxTerm s = .next t) : Moves .rxTerm s t := moves_of_rxOp h effect_rxTerm

theorem moves_rxData {v : Byte} (h : execRxData v s = .next t) : Moves (.rxData v) s t :=
  moves_of_rxOp h (effect_rxData v)

theorem moves_rxTimeout (h : execRxTimeout s = .next t) : Moves .rxTimeout s t :=
  moves_of_rxOp (f := fun _ => Block.rxTimeout) h .rxTimeout

/-- A received byte is run as its class (rules R75, R143). -/
theorem rxByte_eq_exec (b : Byte) (s : State) : rxByte b s = exec (decodeRx b) s := by
  unfold rxByte decodeRx
  split
  · rfl
  · split <;> rfl

/-- The classes of a received byte. -/
theorem decodeRx_cases (b : Byte) :
    decodeRx b = .rxResync ∨ decodeRx b = .rxTerm
      ∨ decodeRx b = .rxData b ∧ b ≠ Config.resync ∧ b ≠ Config.term := by
  by_cases hresync : b = Config.resync
  · simp [decodeRx, hresync]
  · by_cases hterm : b = Config.term
    · subst hterm; exact .inr (.inl rfl)
    · simp [decodeRx, hresync, hterm]

/-- A symbol is an operation that the decoder reads from the line. -/
theorem moves_of_rxSymbol {x : Symbol} (h : rxSymbol x s = .next t) : ∃ j, decode (.line x) = .ok j ∧ Moves j s t := by
  cases x with
  | timeout => exact ⟨.rxTimeout, rfl, moves_rxTimeout h⟩
  | byte b =>
    refine ⟨decodeRx b, rfl, ?_⟩
    rw [rxSymbol, rxByte_eq_exec] at h
    obtain hb | hb | ⟨hb, -, -⟩ := decodeRx_cases b <;> rw [hb] at h ⊢
    · exact moves_rxResync h
    · exact moves_rxTerm h
    · exact moves_rxData h

/-- The two rows that run a whole reply (log entry 12). -/
def IsReply (i : Instr) : Prop :=
  i = .replyEmpty ∨ ∃ reg unit ctl mant tail, i = .replyValue reg unit ctl mant tail

/-- The single operations a row can run: itself, or those of its sequence (log entry 12). -/
inductive Runs : Instr → Instr → Prop
  | self (i : Instr) : Runs i i
  | framePush (p : Byte) (m : List Byte) (v : Byte) : Runs (.frame p m) (.encPush v)
  | frameSend (p : Byte) (m : List Byte) : Runs (.frame p m) (.encSend p)
  | requestPush (id : Word) (v : Byte) : Runs (.reqRead id) (.encPush v)
  | replyArm {i : Instr} (reply : IsReply i) : Runs i .decArm
  | replySymbol {i j : Instr} (reply : IsReply i) (x : Symbol) (hdec : decode (.line x) = .ok j) : Runs i j
  | replyUnpack {i : Instr} (reply : IsReply i) : Runs i .unpDecode

/-- From `s` to `t` by operations of `R`, each taken or leaving everything untouched. -/
def Path (R : Instr → Prop) : State → State → Prop :=
  Relation.ReflTransGen fun a b => Untouched a b ∨ ∃ j, R j ∧ Effect a j b

variable {R R' : Instr → Prop}

theorem Path.mono (hR : ∀ j, R j → R' j) (h : Path R s t) : Path R' s t :=
  Relation.ReflTransGen.mono (fun _ _ => Or.imp_right fun ⟨j, hj, he⟩ => ⟨j, hR j hj, he⟩) s t h

theorem Path.trans (h : Path R s t) (h' : Path R t u) : Path R s u := Relation.ReflTransGen.trans h h'

theorem Path.of_untouched (h : Untouched s t) : Path R s t := .single (.inl h)

theorem Path.of_moves (h : Moves j s t) (hj : R j) : Path R s t :=
  .single (h.imp_right fun he => ⟨j, hj, he⟩)

theorem path_of_pushAll {vs : List Byte} (h : pushAll vs s = .next t) : Path (fun j => ∃ v, j = .encPush v) s t := by
  induction vs generalizing s with
  | nil => cases h; exact .refl
  | cons v vs ih =>
    obtain ⟨u, hu, ht⟩ := andThen_eq_next.1 h
    exact (Path.of_moves (moves_encPush hu) ⟨v, rfl⟩).trans (ih ht)

theorem path_of_receive {xs : List Symbol} (h : receive xs s = .next t) :
    Path (fun j => ∃ x, decode (.line x) = .ok j) s t := by
  induction xs generalizing s with
  | nil => cases h; exact .refl
  | cons x xs ih =>
    cases hp : s.blk.pulling with
    | true =>
      rw [receive_pulled hp] at h
      obtain ⟨u, hu, ht⟩ := andThen_eq_next.1 h
      obtain ⟨j, hdec, hmoves⟩ := moves_of_rxSymbol hu
      exact (Path.of_moves hmoves ⟨x, hdec⟩).trans (ih ht)
    | false =>
      rw [receive_kept hp] at h
      cases h
      exact .of_untouched (untouched_keepSymbols _ s)

theorem path_of_replyRun {payload : List Byte} (hi : IsReply i) (h : replyRun payload s = .next t) :
    Path (Runs i) s t := by
  obtain ⟨u, hu, hunpack⟩ := andThen_eq_next.1 h
  obtain ⟨v, harm, hrx⟩ := andThen_eq_next.1 hu
  have harmed : Path (Runs i) s v := .of_moves (moves_decArm harm) (.replyArm hi)
  have hreceived : Path (Runs i) v u := (path_of_receive hrx).mono fun _ ⟨x, hdec⟩ => .replySymbol hi x hdec
  exact (harmed.trans hreceived).trans (Path.of_moves (moves_unpDecode hunpack) (.replyUnpack hi))

/-- Every instruction but RESET runs a sequence of its single operations, each taken or leaving everything untouched. -/
theorem path_of_exec (hi : i ≠ .reset) (h : exec i s = .next t) : Path (Runs i) s t := by
  have one (hm : Moves i s t) : Path (Runs i) s t := .of_moves hm (.self i)
  cases i with
  | crcClr => exact one (moves_of_hostOp h fun hidle _ => .crcClr hidle)
  | crcBit x => exact one (moves_of_hostOp h fun hidle _ => .crcBit x hidle)
  | crcByte v => exact one (moves_of_hostOp h fun hidle _ => .crcByte v hidle)
  | encPush v => exact one (moves_encPush h)
  | encSend p => exact one (moves_encSend h)
  | decArm => exact one (moves_decArm h)
  | unpDecode => exact one (moves_unpDecode h)
  | rxResync => exact one (moves_rxResync h)
  | rxTerm => exact one (moves_rxTerm h)
  | rxData v => exact one (moves_rxData h)
  | rxTimeout => exact one (moves_rxTimeout h)
  | reserved0 | reserved8 | reserved9 | reservedA | reservedB | reservedC | reservedD | reservedE | reservedF =>
    cases h; exact one (.inl (untouched_answer .rejected s))
  | txEsc06 | txEsc0D | txEsc1B | txEsc40 | txEsc80 | txLit | scanPair | scanLit | expCtrl =>
    cases h; exact one (.inl ⟨rfl, rfl, rfl, rfl, rfl⟩)
  | reset => exact absurd rfl hi
  | frame p m =>
    obtain ⟨u, hpush, hsend⟩ := andThen_eq_next.1 h
    have hpushed : Path (Runs (.frame p m)) s u := (path_of_pushAll hpush).mono fun _ ⟨v, hv⟩ => hv ▸ .framePush p m v
    exact hpushed.trans (Path.of_moves (moves_encSend hsend) (.frameSend p m))
  | reqRead id => exact (path_of_pushAll h).mono fun _ ⟨v, hv⟩ => hv ▸ .requestPush id v
  | replyEmpty => exact path_of_replyRun (.inl rfl) h
  | replyValue reg unit ctl mant tail => exact path_of_replyRun (.inr ⟨reg, unit, ctl, mant, tail, rfl⟩) h

theorem Effect.params_eq (h : Effect s j t) : t.params = s.params := by
  cases h <;> rfl

/-- Along a path something untouched by what is turned away changes only by some effect. -/
theorem Path.exists_effect {α : Type} {f : State → α} (hf : ∀ {a b}, Untouched a b → f b = f a) (h : Path R s t)
    (hchanged : f t ≠ f s) : ∃ a j b, a.params = s.params ∧ R j ∧ Effect a j b ∧ f b ≠ f a := by
  induction h using Relation.ReflTransGen.head_induction_on with
  | refl => exact absurd rfl hchanged
  | @head a b hab hbt ih =>
    obtain hsame | ⟨j, hj, he⟩ := hab
    · obtain ⟨c, k, d, hparams, rest⟩ := ih (by rwa [hf hsame])
      exact ⟨c, k, d, hparams.trans hsame.params, rest⟩
    · by_cases hba : f b = f a
      · obtain ⟨c, k, d, hparams, rest⟩ := ih (by rwa [hba])
        exact ⟨c, k, d, hparams.trans he.params_eq, rest⟩
      · exact ⟨a, j, b, rfl, hj, he, hba⟩

end Sys2Proof.Machine
end

section
/-! ## Which operation sets which component (rule R20) -/

namespace Sys2Proof.Machine

variable {s t : State} {i j : Instr}

/-- Rule R23. -/
theorem Effect.crc (h : Effect s j t) : t.blk.crc = s.blk.crc ∨
    (j = .crcClr ∨ (∃ b, j = .crcBit b) ∨ (∃ v, j = .crcByte v) ∨ (∃ p, j = .encSend p) ∨ j = .rxTerm) := by
  cases h <;> simp

/-- Rule R24. -/
theorem Effect.txBuf (h : Effect s j t) :
    t.blk.txBuf = s.blk.txBuf ∨ ((∃ v, j = .encPush v) ∨ ∃ p, j = .encSend p) := by
  cases h <;> simp [Block.endFrame]

/-- Rule R25. -/
theorem Effect.decState (h : Effect s j t) : t.blk.decState = s.blk.decState ∨
    (j = .decArm ∨ j = .rxTerm ∨ (∃ v, j = .rxData v) ∨ j = .rxTimeout) := by
  cases h <;> simp [sendFrame_blk]

/-- Rule R26. -/
theorem Effect.rxBuf (h : Effect s j t) : t.blk.rxBuf = s.blk.rxBuf ∨
    (j = .decArm ∨ j = .rxResync ∨ j = .rxTerm ∨ (∃ v, j = .rxData v) ∨ j = .rxTimeout) := by
  cases h <;> simp [sendFrame_blk]

/-- Rule R27. -/
theorem Effect.pl (h : Effect s j t) : t.blk.pl = s.blk.pl ∨ (j = .decArm ∨ j = .rxTerm) := by
  cases h <;> simp [sendFrame_blk]

/-- Rule R28. -/
theorem Effect.missingEsc (h : Effect s j t) :
    t.blk.missingEsc = s.blk.missingEsc ∨ (j = .decArm ∨ j = .rxTerm) := by
  cases h <;> simp [sendFrame_blk]

/-- Rule R29. -/
theorem Effect.crcErr (h : Effect s j t) : t.blk.crcErr = s.blk.crcErr ∨ (j = .decArm ∨ j = .rxTerm) := by
  cases h <;> simp [sendFrame_blk]

/-- Rule R206: a write that fails. -/
theorem Effect.txFail (h : Effect s j t) :
    t.blk.txFail = s.blk.txFail ∨ ((∃ p, j = .encSend p) ∧ s.env.nextTxAnswer = .fail) := by
  cases h with
  | encSend p =>
    cases hans : s.env.nextTxAnswer with
    | ok => exact .inl (by simp [sendFrame_blk, hans])
    | fail => exact .inr ⟨⟨p, rfl⟩, rfl⟩
  | _ => exact .inl rfl

/-- Rule R207: a data byte or a terminator that finds the buffer full. -/
theorem Effect.rxOvf (h : Effect s j t) : t.blk.rxOvf = s.blk.rxOvf ∨
    (((∃ v, j = .rxData v) ∨ j = .rxTerm) ∧ s.params.rxBufMax = some s.blk.rxBuf.length) := by
  cases h with
  | rxDataFull v _ noRoom => exact .inr ⟨.inl ⟨v, rfl⟩, noRoom⟩
  | rxTermFull _ noRoom => exact .inr ⟨.inr rfl, noRoom⟩
  | encSend p => exact .inl (by simp [sendFrame_blk])
  | _ => exact .inl rfl

/-- Rule R30. -/
theorem Effect.faulted (h : Effect s j t) : t.blk.faulted = s.blk.faulted ∨
    ((∃ p, j = .encSend p) ∨ (∃ v, j = .rxData v) ∨ j = .rxTerm) := by
  obtain htx | ⟨hj, -⟩ := h.txFail
  · obtain hrx | ⟨hj, -⟩ := h.rxOvf
    · exact .inl (by rw [Block.faulted, htx, hrx, Block.faulted])
    · exact .inr (.inr hj)
  · exact .inr (.inl hj)

/-- Rule R31. -/
theorem Effect.decResult (h : Effect s j t) :
    t.blk.decResult = s.blk.decResult ∨ (j = .decArm ∨ j = .rxTerm ∨ j = .rxTimeout) := by
  cases h <;> simp [sendFrame_blk]

/-- Rule R34. -/
theorem Effect.unpOutcome (h : Effect s j t) :
    t.blk.unpOutcome = s.blk.unpOutcome ∨ (j = .decArm ∨ j = .unpDecode) := by
  cases h <;> simp [sendFrame_blk, Block.endFrame]

/-- Rule R35. -/
theorem Effect.value (h : Effect s j t) : t.blk.value = s.blk.value ∨ (j = .decArm ∨ j = .unpDecode) := by
  cases h <;> simp [sendFrame_blk, Block.endFrame]

theorem Effect.idle_or_pulls (h : Effect s j t) : s.blk.busy = false ∨ s.blk.pulling = true := by
  cases h <;> simp [*]

/-- No operation is taken while a fault stands (rules R142, R205). -/
theorem Effect.not_faulted (h : Effect s j t) : s.blk.faulted = false := by
  obtain hidle | hpulls := h.idle_or_pulls
  · exact (Block.busy_eq_false.1 hidle).1
  · exact (Block.pulling_eq_true.1 hpulls).2

/-- A component of the block that an instruction changes is changed by one of its single operations. -/
theorem exec_changes {α : Type} (f : Block → α) (hi : i ≠ .reset) (h : exec i s = .next t)
    (hchanged : f t.blk ≠ f s.blk) :
    ∃ a j b, a.params = s.params ∧ Runs i j ∧ Effect a j b ∧ f b.blk ≠ f a.blk :=
  (path_of_exec hi h).exists_effect (f := fun u => f u.blk) (fun hsame => congrArg f hsame.blk) hchanged

/-- What is true of a symbol's operation is true of one of the four. -/
theorem symbol_operation_cases {P : Instr → Prop} (x : Symbol) (hdec : decode (.line x) = .ok j) (hj : P j) :
    P .rxResync ∨ P .rxTerm ∨ (∃ v, P (.rxData v)) ∨ P .rxTimeout := by
  cases x with
  | timeout => cases hdec; exact .inr (.inr (.inr hj))
  | byte b =>
    cases hdec
    obtain hb | hb | ⟨hb, -⟩ := decodeRx_cases b <;> rw [hb] at hj
    · exact .inl hj
    · exact .inr (.inl hj)
    · exact .inr (.inr (.inl ⟨b, hj⟩))

/-- A component that only operations of `P` change is changed only by those rows and by the rows that run one. -/
theorem set_only_by {α : Type} {P : Instr → Prop} (f : Block → α)
    (hset : ∀ {a j b}, Effect a j b → f b.blk = f a.blk ∨ P j) (hi : i ≠ .reset) (h : exec i s = .next t)
    (hchanged : f t.blk ≠ f s.blk) :
    P i ∨ (∃ p m, i = .frame p m ∧ ((∃ v, P (.encPush v)) ∨ P (.encSend p)))
      ∨ (∃ id, i = .reqRead id ∧ ∃ v, P (.encPush v))
      ∨ IsReply i ∧ (P .decArm ∨ (P .rxResync ∨ P .rxTerm ∨ (∃ v, P (.rxData v)) ∨ P .rxTimeout) ∨ P .unpDecode) := by
  obtain ⟨a, j, b, -, hruns, he, hab⟩ := exec_changes f hi h hchanged
  have hj : P j := (hset he).resolve_left hab
  cases hruns with
  | self => exact .inl hj
  | framePush p m v => exact .inr (.inl ⟨p, m, rfl, .inl ⟨v, hj⟩⟩)
  | frameSend p m => exact .inr (.inl ⟨p, m, rfl, .inr hj⟩)
  | requestPush id v => exact .inr (.inr (.inl ⟨id, rfl, v, hj⟩))
  | replyArm reply => exact .inr (.inr (.inr ⟨reply, .inl hj⟩))
  | replySymbol reply x hdec => exact .inr (.inr (.inr ⟨reply, .inr (.inl (symbol_operation_cases x hdec hj))⟩))
  | replyUnpack reply => exact .inr (.inr (.inr ⟨reply, .inr (.inr hj)⟩))

/-- Settles O48: the effects' set-by lemmas, lifted to the rows that run such operations (log entry 12). -/
theorem componentsAreSetOnlyBy : Obligations.ComponentsAreSetOnlyBy := by
  intro i s t h hi reply send rx
  refine ⟨fun hc => (?_ : _ → _) (set_only_by _ Effect.crc hi h hc),
    fun hc => (?_ : _ → _) (set_only_by _ Effect.txBuf hi h hc),
    fun hc => (?_ : _ → _) (set_only_by _ Effect.decState hi h hc),
    fun hc => (?_ : _ → _) (set_only_by _ Effect.rxBuf hi h hc),
    fun hc => (?_ : _ → _) (set_only_by _ Effect.pl hi h hc),
    fun hc => (?_ : _ → _) (set_only_by _ Effect.missingEsc hi h hc),
    fun hc => (?_ : _ → _) (set_only_by _ Effect.crcErr hi h hc),
    fun hc => (?_ : _ → _) (set_only_by _ Effect.faulted hi h hc),
    fun hc => (?_ : _ → _) (set_only_by _ Effect.decResult hi h hc),
    fun hc => (?_ : _ → _) (set_only_by _ Effect.unpOutcome hi h hc),
    fun hc => (?_ : _ → _) (set_only_by _ Effect.value hi h hc)⟩
  all_goals
    simp only [IsReply, reply, send, rx]
    grind

/-- From a faulted block no operation of a path is taken. -/
theorem Path.untouched_of_faulted {R : Instr → Prop} (h : Path R s t) (hfault : s.blk.faulted = true) :
    Untouched s t := by
  induction h with
  | refl => exact .refl s
  | @tail b c _ hbc ih =>
    obtain hsame | ⟨j, -, he⟩ := hbc
    · exact ih.trans hsame
    · cases (ih.blk ▸ he.not_faulted).symm.trans hfault

/-- Settles O46: a faulted block takes none of an instruction's operations. -/
theorem faultedBlockChangesOnlyByReset : Obligations.FaultedBlockChangesOnlyByReset := by
  intro i s t hfault hi h
  have hsame := (path_of_exec hi h).untouched_of_faulted hfault
  exact ⟨hsame.blk, hsame.writes, hsame.line⟩

theorem Moves.effect {α : Type} {f : Block → α} (h : Moves j s t) (hchanged : f t.blk ≠ f s.blk) : Effect s j t :=
  h.resolve_left fun hsame => hchanged (congrArg f hsame.blk)

/-- The pushes of ENC.FRAME leave what the write after them is answered, and `TX_FAIL`. -/
theorem pushAll_keeps {vs : List Byte} {u : State} (h : pushAll vs s = .next u) :
    u.env.nextTxAnswer = s.env.nextTxAnswer ∧ u.blk.txFail = s.blk.txFail := by
  constructor <;> by_contra hchanged
  · obtain ⟨a, j, b, -, ⟨v, rfl⟩, he, hab⟩ := (path_of_pushAll h).exists_effect Untouched.nextTxAnswer hchanged
    cases he
    exact hab rfl
  · obtain ⟨a, j, b, -, ⟨v, rfl⟩, he, hab⟩ :=
      (path_of_pushAll h).exists_effect (f := fun u => u.blk.txFail) (fun hsame => by rw [hsame.blk]) hchanged
    cases he
    exact hab rfl

/-- A frame row that changes `TX_FAIL` has its write fail. -/
theorem frame_txFail {p : Byte} {m : List Byte} (h : exec (.frame p m) s = .next t)
    (hchanged : t.blk.txFail ≠ s.blk.txFail) : s.env.nextTxAnswer = .fail := by
  obtain ⟨u, hpush, hsend⟩ := andThen_eq_next.1 h
  obtain ⟨hanswer, hfail⟩ := pushAll_keeps hpush
  have hchanged' : t.blk.txFail ≠ u.blk.txFail := by rwa [hfail]
  have he := (moves_encSend hsend).effect hchanged'
  exact hanswer ▸ (he.txFail.resolve_left hchanged').2

/-- Rule R206 over all rows. -/
theorem exec_txFail (hi : i ≠ .reset) (h : exec i s = .next t) (hchanged : t.blk.txFail ≠ s.blk.txFail) :
    ((∃ p, i = .encSend p) ∨ ∃ p m, i = .frame p m) ∧ s.env.nextTxAnswer = .fail := by
  obtain ⟨p, rfl⟩ | ⟨p, m, rfl⟩ : (∃ p, i = .encSend p) ∨ ∃ p m, i = .frame p m := by
    simpa using set_only_by Block.txFail (fun he => he.txFail.imp_right And.left) hi h hchanged
  · have he := (moves_encSend h).effect hchanged
    exact ⟨.inl ⟨p, rfl⟩, (he.txFail.resolve_left hchanged).2⟩
  · exact ⟨.inr ⟨p, m, rfl⟩, frame_txFail h hchanged⟩

/-- Rule R207 over all rows. -/
theorem exec_rxOvf (hi : i ≠ .reset) (h : exec i s = .next t) (hchanged : t.blk.rxOvf ≠ s.blk.rxOvf) :
    ((∃ b, i = .rxData b) ∨ i = .rxTerm) ∧ s.params.rxBufMax = some s.blk.rxBuf.length
      ∨ IsReply i ∧ s.params.rxBufMax ≠ none := by
  obtain (⟨v, rfl⟩ | rfl) | hreply : ((∃ v, i = .rxData v) ∨ i = .rxTerm) ∨ IsReply i := by
    simpa using set_only_by Block.rxOvf (fun he => he.rxOvf.imp_right And.left) hi h hchanged
  · exact .inl (((moves_rxData h).effect hchanged).rxOvf.resolve_left hchanged)
  · exact .inl (((moves_rxTerm h).effect hchanged).rxOvf.resolve_left hchanged)
  · obtain ⟨a, j, b, hparams, -, he, hab⟩ := exec_changes Block.rxOvf hi h hchanged
    have hfull := (he.rxOvf.resolve_left hab).2
    exact .inr ⟨hreply, by simp [← hparams, hfull]⟩

/-- Settles O47: RESET sets no fault, every other row by rules R206 and R207. -/
theorem faultsComeOnlyFrom : Obligations.FaultsComeOnlyFrom := by
  intro i s t h
  by_cases hi : i = .reset
  · subst hi
    cases h
    exact ⟨fun _ ht => (by cases ht), fun _ ht => (by cases ht)⟩
  · exact ⟨fun hs ht => exec_txFail hi h (by simp [hs, ht]), fun hs ht => exec_rxOvf hi h (by simp [hs, ht])⟩

end Sys2Proof.Machine
end

section
/-! ## What the decoder reads is well formed (rules R70 to R93) -/

namespace Sys2Proof.Machine

variable {i : Instr} {bs : List Byte}

theorem wf_of_decodeRx (b : Byte) : (decodeRx b).wf = true := by
  obtain h | h | ⟨h, hresync, hterm⟩ := decodeRx_cases b
  · rw [h]; rfl
  · rw [h]; rfl
  · rw [h]; simp [Instr.wf, hresync, hterm]

theorem wf_of_decodeLine {x : Symbol} (h : decode (.line x) = .ok i) : i.wf = true := by
  cases x with
  | timeout => cases h; rfl
  | byte b => cases h; exact wf_of_decodeRx b

theorem wf_of_decodeCmd (w : CmdWord) : (decodeCmd w).wf = true := by
  simp only [decodeCmd, apply_ite Instr.wf]
  simp only [Instr.wf, ite_self]

theorem wf_of_decodeTx (b : Byte) : (decodeTx b).wf = true := by
  cases hesc : inEscSet b with
  | false =>
    simp only [decodeTx, apply_ite Instr.wf]
    simp only [Instr.wf, hesc, Bool.not_false, ite_self]
  | true =>
    obtain rfl | rfl | rfl | rfl | rfl := (inEscSet_iff b).1 hesc <;> rfl

theorem wf_of_decodeScan (h : decodeScan bs = .ok i) : i.wf = true := by
  unfold decodeScan at h
  split at h
  · split at h
    · cases h
    · next hmark => cases h; simpa [Instr.wf] using hmark
  · split at h <;> cases h
    rfl
  · cases h

theorem wf_of_decodeFrame (h : decodeFrame bs = .ok i) : i.wf = true := by
  obtain ⟨p, m, rfl⟩ : ∃ p m, i = .frame p m := by
    unfold decodeFrame at h
    repeat' split at h
    all_goals cases h
    exact ⟨_, _, rfl⟩
  rfl

theorem wf_of_decodeReply {rh rl unit len ctl : Byte} (h : decodeReply rh rl unit len ctl bs = .ok i) :
    i.wf = true := by
  unfold decodeReply at h
  split at h
  · cases h
    have := len.isLt
    simp [Instr.wf]; omega
  · cases h

theorem wf_of_decodePayload (h : decodePayload bs = .ok i) : i.wf = true := by
  unfold decodePayload at h
  split at h
  · cases h; rfl
  · split at h <;> cases h; rfl
  · split at h <;> cases h; rfl
  · split at h
    · exact wf_of_decodeReply h
    · cases h
  · cases h

/-- Whatever stands before the block, what it is read as is well formed. -/
theorem wf_of_decode {p : Port} (h : decode p = .ok i) : i.wf = true := by
  unfold decode at h
  split at h
  · cases h; exact wf_of_decodeCmd _
  · cases h; rfl
  · cases h; exact wf_of_decodeTx _
  · cases h
  · exact wf_of_decodeScan h
  · exact wf_of_decodeFrame h
  · exact wf_of_decodePayload h
  · exact wf_of_decodeLine (x := .byte _) h
  · exact wf_of_decodeLine (x := .timeout) h

/-- The single operations of a well-formed row are well formed. -/
theorem Runs.wf {j : Instr} (h : Runs i j) (hi : i.wf = true) : j.wf = true := by
  cases h with
  | self => exact hi
  | framePush | frameSend | requestPush | replyArm | replyUnpack => rfl
  | replySymbol _ x hdec => exact wf_of_decodeLine hdec

end Sys2Proof.Machine
end

section
/-! ## The relations of the state (rule R37)

One lemma per effect on the block: it keeps the relations. -/

namespace Sys2Proof.Machine

variable {ps : Params} {b : Block} {s t : State} {i j : Instr}

/-- After a receive the unpacker reports `NO_RESPONSE`, `VALUE`, or one of three failures, all but `VALUE` with zero
fields (rule R172). -/
theorem unpack_cases {r : DecResult} (p : List Byte) (done : r ≠ .none) :
    (r = .noFrame ∧ unpack r p = (.noResponse, .zero))
    ∨ (r = .frame ∧ (unpack r p = (.malformed, .zero) ∨ unpack r p = (.badHeader, .zero)
        ∨ unpack r p = (.emptyReply, .zero) ∨ unpack r p = (.value, fieldsOf p))) := by
  cases r with
  | none => exact absurd rfl done
  | noFrame => exact .inl ⟨rfl, rfl⟩
  | frame =>
    refine .inr ⟨rfl, ?_⟩
    simp only [unpack, reduceCtorEq, if_false]
    repeat' split
    all_goals simp

/-- The payload is four bytes shorter than the buffer with its terminator: the first byte, the terminator and the
CRC are gone (rules R50, R147, R151). -/
theorem stripCrc_unescape_length_le (buf : List Byte) : (stripCrc (unescape buf).1).length ≤ buf.length - 4 := by
  have h := scan_length_le (buf.drop 1)
  rw [List.length_drop] at h
  rw [stripCrc, List.length_take, unescape]
  omega

/-- The buffer still fits with one byte more when it is not full. -/
theorem length_lt_of_room {len n : Nat} {cap : Option Nat} (room : full len cap = false) (hcap : cap = some n)
    (hfits : len ≤ n) : len < n := by
  subst hcap
  have : n ≠ len := by simpa using full_eq_false.1 room
  omega

theorem Block.inv_reset (ps : Params) : Block.reset.Inv ps := by
  constructor <;> simp [Block.reset]

theorem Block.Inv.withCrc (h : b.Inv ps) (c : Word) : Block.Inv ps { b with crc := c } := { h with }

theorem Block.Inv.pushed (h : b.Inv ps) (v : Byte) (room : full b.txBuf.length ps.txBufMax = false) :
    Block.Inv ps { b with txBuf := b.txBuf ++ [v] } :=
  { h with
    txFits := fun n hn => by
      have := length_lt_of_room room hn (h.txFits n hn)
      simpa using this }

/-- A write leaves nothing staged, and its fault falls in no receive (rule R209). -/
theorem Block.Inv.sent (h : b.Inv ps) (idle : b.decState = .idle) (c : Word) (fault : Bool) :
    Block.Inv ps { b with crc := c, txBuf := [], txFail := fault } :=
  { h with
    accFaultless := fun hacc => by simp [idle] at hacc
    txFits := fun n _ => Nat.zero_le n }

/-- DEC.ARM clears what a receive gives (rule R141). -/
theorem Block.Inv.arm (h : b.Inv ps) (faultless : b.faulted = false) : b.arm.Inv ps := by
  obtain ⟨-, hovf⟩ := Block.faulted_eq_false.1 faultless
  constructor
  case accFaultless => exact fun _ => faultless
  case txFits => exact h.txFits
  all_goals simp [hovf]

theorem Block.Inv.unpacked (h : b.Inv ps) (idle : b.decState = .idle) (done : b.decResult ≠ .none) :
    b.unpacked.Inv ps := by
  obtain ⟨hr, hu⟩ | ⟨hr, hu | hu | hu | hu⟩ := unpack_cases b.pl done
  all_goals
    rw [hr] at hu
    exact
      { h with
        accFresh := fun hacc => by simp [idle] at hacc
        noValueZero := by simp [hr, hu]
        noResponseNoFrame := by simp [hr, hu]
        outcomeFrame := by simp [hr, hu]
        outcomeOfPayload := fun _ => rfl }

theorem Block.Inv.rxResync (h : b.Inv ps) (acc : b.decState = .acc) (hlegal : ps.legal = true) :
    b.rxResync.Inv ps :=
  { h with
    idleEmpty := fun hidle => by simp [acc] at hidle
    resyncFirst := by simp
    noTerm := by simp [Config.resync, Config.term]
    rxFits := fun n hn => by
      simp only [Params.legal, hn, Option.all_some, Bool.and_eq_true, decide_eq_true_eq] at hlegal
      exact hlegal.2 }

/-- A data byte is neither 0x40 nor 0x0D (rule R75). -/
theorem Block.Inv.appended (h : b.Inv ps) (acc : b.decState = .acc) {v : Byte} (hwf : (Instr.rxData v).wf = true)
    (room : full b.rxBuf.length ps.rxBufMax = false) : Block.Inv ps { b with rxBuf := b.rxBuf ++ [v] } := by
  obtain ⟨hresync, hterm⟩ : v ≠ Config.resync ∧ v ≠ Config.term := by simpa [Instr.wf] using hwf
  exact
    { h with
      idleEmpty := fun hidle => by simp [acc] at hidle
      resyncFirst := by
        have htail := h.resyncFirst
        cases hbuf : b.rxBuf with
        | nil => simp
        | cons x xs =>
          rw [hbuf] at htail
          simpa [hresync.symm] using htail
      noTerm := by simp [h.noTerm, hterm.symm]
      rxFits := fun n hn => by
        have := length_lt_of_room room hn (h.rxFits n hn)
        simpa using this }

/-- A finished frame has no outcome yet, and its payload is what the capacity leaves of it (rule R50). -/
theorem Block.Inv.endFrame (h : b.Inv ps) (acc : b.decState = .acc)
    (room : full b.rxBuf.length ps.rxBufMax = false) : b.endFrame.Inv ps := by
  have hfresh : b.endFrame.unpOutcome = .none := (h.accFresh acc).2
  exact
    { h with
      idleEmpty := fun _ => rfl
      noFrameClear := fun hno => absurd rfl hno
      accFresh := fun hacc => by cases hacc
      noResponseNoFrame := fun ho => by simp [hfresh] at ho
      outcomeFrame := fun _ => rfl
      resyncFirst := by simp [Block.endFrame]
      noTerm := by simp [Block.endFrame]
      ovfIdle := fun _ => rfl
      accFaultless := fun hacc => by cases hacc
      rxFits := fun n _ => Nat.zero_le n
      plFits := fun n hn => by
        have hroom := length_lt_of_room room hn (h.rxFits n hn)
        have hpl := stripCrc_unescape_length_le (b.rxBuf ++ [Config.term])
        simp only [Block.endFrame, List.length_append, List.length_singleton] at hpl ⊢
        omega
      outcomeOfPayload := fun ho => absurd hfresh ho }

/-- A timeout leaves no frame, and its receive had left nothing (rule R152). -/
theorem Block.Inv.rxTimeout (h : b.Inv ps) (acc : b.decState = .acc) : b.rxTimeout.Inv ps := by
  obtain ⟨hresult, hfresh⟩ := h.accFresh acc
  exact
    { h with
      idleEmpty := fun _ => rfl
      noFrameClear := fun _ => h.noFrameClear (by simp [hresult])
      accFresh := fun hacc => by cases hacc
      noResponseNoFrame := fun _ => rfl
      outcomeFrame := by simp [hfresh]
      resyncFirst := by simp
      noTerm := by simp
      ovfIdle := fun _ => rfl
      accFaultless := fun hacc => by cases hacc
      rxFits := fun n _ => Nat.zero_le n
      outcomeOfPayload := fun ho => absurd hfresh ho }

/-- An overflow empties the buffer and ends the receive without a result (rule R153). -/
theorem Block.Inv.overflow (h : b.Inv ps) : b.overflow.Inv ps :=
  { h with
    idleEmpty := fun _ => rfl
    accFresh := fun hacc => by cases hacc
    resyncFirst := by simp
    noTerm := by simp
    ovfIdle := fun _ => rfl
    accFaultless := fun hacc => by cases hacc
    rxFits := fun n _ => Nat.zero_le n }

theorem State.inv_of_untouched (hsame : Untouched s t) (h : s.Inv) : t.Inv := by
  rwa [State.Inv, hsame.blk, hsame.params]

/-- Every effect of a well-formed operation keeps the relations. -/
theorem Effect.inv (he : Effect s j t) (hwf : j.wf = true) (h : s.Inv) : t.Inv := by
  obtain ⟨hlegal, hblk⟩ := h
  have ready (hidle : s.blk.busy = false) := Block.busy_eq_false.1 hidle
  have listens (hpulls : s.blk.pulling = true) := Block.pulling_eq_true.1 hpulls
  refine ⟨he.params_eq ▸ hlegal, he.params_eq ▸ ?_⟩
  cases he with
  | crcClr => exact hblk.withCrc _
  | crcBit => exact hblk.withCrc _
  | crcByte => exact hblk.withCrc _
  | encPush v _ room => exact hblk.pushed v room
  | encSend p hidle => rw [State.answer_blk, sendFrame_blk]; exact hblk.sent (ready hidle).2 _ _
  | decArm hidle => exact hblk.arm (ready hidle).1
  | unpDecode hidle done => exact hblk.unpacked (ready hidle).2 done
  | rxResync hpulls => exact hblk.rxResync (listens hpulls).1 hlegal
  | rxData v hpulls room => exact hblk.appended (listens hpulls).1 hwf room
  | rxDataFull => exact hblk.overflow
  | rxTerm hpulls room => exact hblk.endFrame (listens hpulls).1 room
  | rxTermFull => exact hblk.overflow
  | rxTimeout hpulls => exact hblk.rxTimeout (listens hpulls).1

theorem Path.inv {R : Instr → Prop} (hpath : Path R s t) (hwf : ∀ j, R j → j.wf = true) (h : s.Inv) : t.Inv := by
  induction hpath with
  | refl => exact h
  | tail _ hbc ih =>
    obtain hsame | ⟨j, hj, he⟩ := hbc
    · exact State.inv_of_untouched hsame ih
    · exact he.inv (hwf j hj) ih

/-- Every well-formed instruction keeps the relations. -/
theorem inv_of_exec (hwf : i.wf = true) (h : exec i s = .next t) (hinv : s.Inv) : t.Inv := by
  by_cases hi : i = .reset
  · subst hi
    cases h
    exact ⟨hinv.1, Block.inv_reset s.params⟩
  · exact (path_of_exec hi h).inv (fun _ hruns => hruns.wf hwf) hinv

/-- Settles O52. -/
theorem resetMeetsTheRelations : Obligations.ResetMeetsTheRelations := ⟨rfl, Block.inv_reset _⟩

/-- Settles O53: a step passes the turn or runs a decoded, so well-formed, instruction. -/
theorem everyStepKeepsTheRelations : Obligations.EveryStepKeepsTheRelations := by
  intro s t hinv h
  obtain ⟨-, rfl⟩ | ⟨x, rest, i, -, -, hdec, hexec⟩ | ⟨x, rest, i, -, -, -, hdec, hexec⟩ := step_cases h
  · exact hinv
  · exact inv_of_exec (s := s.takeTurn.withOps rest) (wf_of_decode hdec) hexec hinv
  · exact inv_of_exec (s := s.takeTurn.withSyms rest) (wf_of_decode hdec) hexec hinv

/-- Settles O1: `execReset` and the reset values of rule R42, written out. -/
theorem resetGivesEveryComponentItsValue : Obligations.ResetGivesEveryComponentItsValue :=
  fun _ => ⟨rfl, rfl⟩

end Sys2Proof.Machine
end

section
/-! ## The value (rules R36, R185) -/

namespace Sys2Proof.Machine

/-- The signed mantissa. -/
theorem ValueFields.signed_mant (v : ValueFields) :
    ((if v.sign then -(v.mant : Int) else (v.mant : Int) : Int) : ℚ) = (-1) ^ v.sign.toNat * v.mant := by
  cases v.sign <;> simp

/-- The model's integer product or quotient is the product with a power of ten of either sign. -/
theorem ValueFields.rational_eq (v : ValueFields) :
    v.rational = (-1 : ℚ) ^ v.sign.toNat * (v.mant : ℚ) * (10 : ℚ) ^ v.exp := by
  rw [← v.signed_mant]
  by_cases hexp : 0 ≤ v.exp
  · obtain ⟨n, hn⟩ := Int.eq_ofNat_of_zero_le hexp
    simp [ValueFields.rational, hn]
  · obtain ⟨n, hn⟩ := Int.eq_ofNat_of_zero_le (a := -v.exp) (by omega)
    have hneg : v.exp = -(n : Int) := by omega
    rw [ValueFields.rational, if_neg hexp, Rat.mkRat_eq_div, hn, hneg, zpow_neg, zpow_natCast, div_eq_mul_inv]
    simp

/-- Settles O39: the closed form of the value, and at a zero mantissa and the two examples. -/
theorem valueIsTheExactRational : Obligations.ValueIsTheExactRational := by
  refine ⟨ValueFields.rational_eq, fun v hmant => ?zero, fun v hsign hexp hmant => ?five,
    fun v hsign hexp hmant => ?minusHundred⟩ <;> rw [v.rational_eq]
  case zero => simp [hmant]
  case five =>
    have hs : v.sign = false := hsign
    have he : v.exp = -2 := hexp
    norm_num [hs, he, hmant]
  case minusHundred =>
    have hs : v.sign = true := hsign
    have he : v.exp = 1 := hexp
    norm_num [hs, he, hmant]

end Sys2Proof.Machine
end

section
/-! ## The status port (rule R40) -/

namespace Sys2Proof.Machine

/-- Rule R31: the reserved code is never shown. -/
theorem DecResult.code_ne_reserved (r : DecResult) : r.code ≠ 3#2 := by
  cases r <;> decide

/-- Rule R34: the reserved codes are never shown. -/
theorem UnpOutcome.code_ne_reserved (o : UnpOutcome) : o.code ≠ 6#3 ∧ o.code ≠ 7#3 := by
  cases o <;> decide

/-- The number of concatenated words, high word first. -/
theorem toNat_append_eq {m n : Nat} (x : BitVec m) (y : BitVec n) : (x ++ y).toNat = x.toNat * 2 ^ n + y.toNat := by
  rw [BitVec.toNat_append, ← Nat.shiftLeft_add_eq_or_of_lt y.isLt, Nat.shiftLeft_eq]

theorem Block.receiving_toNat (b : Block) : b.receiving.toNat = if b.decState = .acc then 1 else 0 := by
  cases h : b.decState <;> simp [Block.receiving, h]

theorem Block.statusWord_toNat (b : Block) :
    b.statusWord.toNat =
      (if b.decState = .acc then 1 else 0) + 2 * b.decResult.code.toNat + 8 * b.missingEsc.toNat + 16 * b.crcErr.toNat
        + 32 * b.unpOutcome.code.toNat + 256 * b.txFail.toNat + 512 * b.rxOvf.toNat := by
  simp only [Block.statusWord, toNat_append_eq, BitVec.toNat_ofBool, Block.receiving_toNat, BitVec.toNat_ofNat]
  omega

theorem ValueFields.unitWord_toNat (v : ValueFields) : v.unitWord.toNat = v.unit.toNat + 256 * v.unitKnown.toNat := by
  simp only [ValueFields.unitWord, toNat_append_eq, BitVec.toNat_ofBool]
  omega

theorem ValueFields.expWord_toNat (v : ValueFields) :
    v.expWord.toNat =
      v.expCtrl.toNat + 256 * v.sign.toNat + 512 * (v.expCtrl.getLsbD 6).toNat + 1024 * (v.expCtrl.toNat % 64) := by
  have hmagnitude : (v.expCtrl.extractLsb' 0 6).toNat = v.expCtrl.toNat % 64 := by simp
  simp only [ValueFields.expWord, toNat_append_eq, BitVec.toNat_ofBool, hmagnitude, expNegative]
  omega

/-- A byte register reads 0 past the end. -/
theorem byteAt_toNat (l : List Byte) (i : Nat) : (byteAt l i).toNat = if h : i < l.length then l[i].toNat else 0 := by
  by_cases h : i < l.length <;> simp [byteAt, h]

theorem Block.mantByte_of_value {b : Block} {k : Nat} (hvalue : b.unpOutcome = .value)
    (hk : k < b.value.mantLen.toNat) : b.mantByte k = byteAt b.pl (7 + k) := by
  simp [Block.mantByte, hvalue, hk]

theorem Block.mantByte_eq_zero {b : Block} {k : Nat} (h : b.unpOutcome ≠ .value ∨ b.value.mantLen.toNat ≤ k) :
    b.mantByte k = 0#8 := by
  rw [Block.mantByte, if_neg]
  rintro ⟨hvalue, hk⟩
  exact h.elim (· hvalue) (by omega)

/-- Settles O54. -/
theorem statusPortPacking : Obligations.StatusPortPacking := fun b i =>
  ⟨rfl, rfl, rfl, rfl, DecResult.code_ne_reserved, rfl, rfl, rfl, rfl, rfl, rfl, UnpOutcome.code_ne_reserved,
    rfl, b.statusWord_toNat, rfl, rfl, byteAt_toNat b.pl i, rfl, b.value.unitWord_toNat, rfl, b.value.expWord_toNat,
    fun hvalue hi => congrArg BitVec.toNat (Block.mantByte_of_value hvalue hi),
    fun h => congrArg BitVec.toNat (Block.mantByte_eq_zero h),
    rfl, byteAt_toNat b.rxBuf i, byteAt_toNat b.txBuf i⟩

/-- The number of a byte sequence as the sum of its bytes' places (rules R14, R180). -/
theorem benat_eq_sum (l : List Byte) :
    benat l = ∑ k ∈ Finset.range l.length, (byteAt l k).toNat * 256 ^ (l.length - 1 - k) := by
  induction l with
  | nil => rfl
  | cons b l ih =>
    rw [benat_cons, ih, List.length_cons, Finset.sum_range_succ', add_comm]
    congr 1
    refine Finset.sum_congr rfl fun k _ => ?_
    have hplace : l.length + 1 - 1 - (k + 1) = l.length - 1 - k := by omega
    rw [hplace]
    rfl

theorem byteAt_slice {p : List Byte} {i j k : Nat} (hk : i + k < j) : byteAt (slice p i j) k = byteAt p (i + k) := by
  have : k < j - i := by omega
  simp [byteAt, slice, List.getD_eq_getElem?_getD, this]

theorem slice_length {p : List Byte} {i j : Nat} (hj : j ≤ p.length) : (slice p i j).length = j - i := by
  rw [slice, List.length_take, List.length_drop]; omega

/-- `VALUE` is reported only of a payload that holds the whole mantissa, with the fields of rule R177 (rule R172). -/
theorem unpack_eq_value {r : DecResult} {p : List Byte} {v : ValueFields} (h : unpack r p = (.value, v)) :
    v = fieldsOf p ∧ 7 + (byteAt p 5).toNat ≤ p.length := by
  unfold unpack at h
  repeat' split at h
  all_goals simp at h
  exact ⟨h.symm, by omega⟩

/-- The mantissa is the sum of the bytes that follow the seven of the header (rule R180). -/
theorem fieldsOf_mant {p : List Byte} (h : 7 + (byteAt p 5).toNat ≤ p.length) :
    (fieldsOf p).mant =
      ∑ k ∈ Finset.range (byteAt p 5).toNat, (byteAt p (7 + k)).toNat * 256 ^ ((byteAt p 5).toNat - 1 - k) := by
  have hlen : (slice p 7 (7 + (byteAt p 5).toNat)).length = (byteAt p 5).toNat := by rw [slice_length h]; omega
  rw [show (fieldsOf p).mant = benat (slice p 7 (7 + (byteAt p 5).toNat)) from rfl, benat_eq_sum, hlen]
  refine Finset.sum_congr rfl fun k hk => ?_
  rw [byteAt_slice (by have := Finset.mem_range.1 hk; omega)]

/-- Settles O55: the fields are those of the payload still there (`Block.Inv`), whose bytes the port shows. -/
theorem mantBytesSpellTheMantissa : Obligations.MantBytesSpellTheMantissa := by
  rintro s ⟨-, hinv⟩ hvalue
  have hunpack := hinv.outcomeOfPayload (by simp [hvalue])
  rw [hvalue] at hunpack
  obtain ⟨hfields, hlen⟩ := unpack_eq_value hunpack.symm
  have hmantLen : s.blk.value.mantLen = byteAt s.blk.pl 5 := congrArg ValueFields.mantLen hfields
  calc s.blk.value.mant
      = (fieldsOf s.blk.pl).mant := congrArg ValueFields.mant hfields
    _ = _ := fieldsOf_mant hlen
    _ = _ := by
      rw [hmantLen]
      refine Finset.sum_congr rfl fun k hk => ?_
      rw [Block.readStatus, Block.mantByte_of_value hvalue (by simpa [hmantLen] using hk)]

end Sys2Proof.Machine
end

section
/-! ## The streams of symbols and writes (rules R51, R59) -/

namespace Sys2Proof.Machine

variable {s t : State} {i : Instr}

/-- The symbols to come, the writes and the line of `t` are those of `s`. -/
structure StreamsKept (s t : State) : Prop where
  syms : t.env.syms = s.env.syms
  writes : t.env.writes = s.env.writes
  line : t.env.line = s.env.line

/-- A host operation keeps the streams when its effect does; one that is rejected sends nothing (rule R208). -/
theorem streamsKept_of_hostOp {own : Bool} {f : State → State} (h : hostOp own f s = .next t)
    (hf : (f s).env = s.env) : StreamsKept s t := by
  obtain ⟨-, rfl⟩ | ⟨-, -, rfl⟩ := hostOp_cases h
  · exact ⟨rfl, rfl, rfl⟩
  · constructor <;> simp [hf]

/-- A command word keeps the streams, or it is an ENC.SEND that is taken (rules R59, R91). -/
theorem streamsKept_or_sends (hcmd : i.format = .hostCmd) (h : exec i s = .next t) :
    StreamsKept s t ∨ ∃ p, i = .encSend p ∧ t = (sendFrame p s).answer .ok := by
  cases i with
  | encSend p =>
    obtain ⟨-, rfl⟩ | ⟨-, -, rfl⟩ := hostOp_cases h
    · exact .inl ⟨rfl, rfl, rfl⟩
    · exact .inr ⟨p, rfl, rfl⟩
  | crcClr | crcBit | crcByte | encPush | decArm | unpDecode => exact .inl (streamsKept_of_hostOp h rfl)
  | reserved0 | reserved8 | reserved9 | reservedA | reservedB | reservedC | reservedD | reservedE | reservedF =>
    cases h; exact .inl ⟨rfl, rfl, rfl⟩
  | rxResync | rxTerm | rxData | rxTimeout | reset | txEsc06 | txEsc0D | txEsc1B | txEsc40 | txEsc80 | txLit | scanPair
  | scanLit | frame | reqRead | replyEmpty | replyValue | expCtrl => cases hcmd

/-- A command word is read as a row of its own format (rules R92, R93). -/
theorem format_of_decodeCmd (w : CmdWord) : (decodeCmd w).format = .hostCmd := by
  simp only [decodeCmd, apply_ite Instr.format]
  simp only [Instr.format, ite_self]

/-- What the decoder reads from the line is run as the symbol it stands for (rules R143, R152). -/
theorem exec_of_decodeLine {x : Symbol} (hdec : decode (.line x) = .ok i) (s : State) : exec i s = rxSymbol x s := by
  cases x with
  | timeout => cases hdec; rfl
  | byte b => cases hdec; exact (rxByte_eq_exec b s).symm

/-- A symbol that a listening block takes changes the block alone (rule R142). -/
theorem env_of_rxSymbol {x : Symbol} (hlisten : s.listening) (h : rxSymbol x s = .next t) : t.env = s.env := by
  have hpulls := State.listening_iff.1 hlisten
  have taken {x : Symbol} {f : Params → Block → Block} (h : rxOp x f s = .next t) : t.env = s.env := by
    rw [rxOp_pulled hpulls] at h; cases h; rfl
  cases x with
  | timeout => exact taken (f := fun _ => Block.rxTimeout) h
  | byte b =>
    rw [rxSymbol, rxByte_eq_exec] at h
    obtain hb | hb | ⟨hb, -, -⟩ := decodeRx_cases b <;> rw [hb] at h
    · exact taken (f := fun _ => Block.rxResync) h
    · exact taken h
    · exact taken h

/-- Settles O50: the turn passes, the host's command word or RESET is run with the symbols kept (`streamsKept_or_sends`), or
a listening block takes the symbol at the head of the list and writes nothing (`env_of_rxSymbol`). -/
theorem streamsMoveInOrder : Obligations.StreamsMoveInOrder := by
  intro s t h hnoItem
  obtain ⟨-, rfl⟩ | ⟨x, rest, i, -, hops, hdec, hexec⟩ | ⟨x, rest, i, -, hlisten, hsyms, hdec, hexec⟩ := step_cases h
  · exact ⟨.inl rfl, .inl ⟨rfl, rfl⟩⟩
  · cases x with
    | word w =>
      cases hdec
      obtain ⟨hsyms, hwrites, hline⟩ | ⟨p, hsend, rfl⟩ := streamsKept_or_sends (format_of_decodeCmd w) hexec
      · exact ⟨.inl hsyms, .inl ⟨hwrites, hline⟩⟩
      · exact ⟨.inl rfl, .inr ⟨w, rest, p, _, _, hops, hsend, rfl⟩⟩
    | resetPin => cases hdec; cases hexec; exact ⟨.inl rfl, .inl ⟨rfl, rfl⟩⟩
    | item f bs => exact absurd hops (hnoItem f bs rest)
  · rw [exec_of_decodeLine hdec] at hexec
    have henv : t.env = (s.takeTurn.withSyms rest).env := env_of_rxSymbol hlisten hexec
    rw [henv]
    exact ⟨.inr ⟨hlisten, x, hsyms⟩, .inl ⟨rfl, rfl⟩⟩

end Sys2Proof.Machine
end

section
/-! ## The command words (rules R92, R93) -/

namespace Sys2Proof.Machine

variable {i : Instr}

@[simp] theorem cmdWord_op (op : BitVec 4) (arg : Byte) : (cmdWord op arg).extractLsb' 8 4 = op :=
  BitVec.extractLsb'_append_eq_left

@[simp] theorem cmdWord_arg (op : BitVec 4) (arg : Byte) : (cmdWord op arg).extractLsb' 0 8 = arg :=
  BitVec.extractLsb'_append_eq_right

/-- The nine rows of the reserved command codes (rule R93). -/
def reservedRows : List Instr :=
  [.reserved0, .reserved8, .reserved9, .reservedA, .reservedB, .reservedC, .reservedD, .reservedE, .reservedF]

/-- The reserved codes, one by one. -/
theorem reservedCode_cases {op : BitVec 4} (h : op = 0x0#4 ∨ 0x8#4 ≤ op) :
    op = 0x0#4 ∨ op = 0x8#4 ∨ op = 0x9#4 ∨ op = 0xA#4 ∨ op = 0xB#4 ∨ op = 0xC#4 ∨ op = 0xD#4 ∨ op = 0xE#4
      ∨ op = 0xF#4 := by
  revert op; decide

theorem decodeCmd_mem_reservedRows {w : CmdWord}
    (h : w.extractLsb' 8 4 = 0x0#4 ∨ 0x8#4 ≤ w.extractLsb' 8 4) : decodeCmd w ∈ reservedRows := by
  obtain h | h | h | h | h | h | h | h | h := reservedCode_cases h <;> simp [decodeCmd, h, reservedRows]

theorem exec_reservedRow (hi : i ∈ reservedRows) (s : State) : exec i s = .next (s.answer .rejected) := by
  simp only [reservedRows, List.mem_cons, List.not_mem_nil, or_false] at hi
  obtain rfl | rfl | rfl | rfl | rfl | rfl | rfl | rfl | rfl := hi <;> rfl

/-- Settles O2: the word's fields are its code and its argument, and the decoder's chain is keyed by the code. -/
theorem commandWordReadsAsItsCode : Obligations.CommandWordReadsAsItsCode := by
  intro op arg
  refine ⟨?_, ?_, ?_, ?_, ?_, ?_, ?_,
    fun h => decodeCmd_mem_reservedRows (w := cmdWord op arg) (by rwa [cmdWord_op])⟩
  all_goals
    rintro rfl
    rw [← cmdWord, decodeCmd, cmdWord_op, cmdWord_arg]
    rfl

/-- Settles O3: a reserved code is read as a reserved row, and each of these is rejected. -/
theorem reservedCodesAreRejected : Obligations.ReservedCodesAreRejected :=
  fun s => ⟨fun _ h => exec_reservedRow (decodeCmd_mem_reservedRows h) s, fun _ hi => exec_reservedRow hi s⟩

end Sys2Proof.Machine
end

section
/-! ## Stuffing and its inverses (rules R121 to R123, R147)

`unstuff` reads exactly what `stuff` writes, and the scan of rule R147 undoes it whatever follows. -/

namespace Sys2Proof.Machine

variable {b : Byte}

@[simp] theorem complement_complement (b : Byte) : b ^^^ Config.escXor ^^^ Config.escXor = b := by
  rw [BitVec.xor_assoc, BitVec.xor_self, BitVec.xor_zero]

/-- The complements of the escape bytes are no escape bytes. -/
theorem not_inEscSet_complement (h : inEscSet b = true) : inEscSet (b ^^^ Config.escXor) = false := by
  obtain rfl | rfl | rfl | rfl | rfl := (inEscSet_iff b).1 h <;> rfl

/-- Of the Escape Table only the marker stands in stuffed bytes (rule R131). -/
theorem mem_stuff {u : List Byte} (h : b ∈ stuff u) : b = Config.escMark ∨ inEscSet b = false := by
  obtain ⟨v, -, hb⟩ := List.mem_flatMap.1 h
  cases hv : inEscSet v with
  | false =>
    rw [esc_of_not_inEscSet hv, List.mem_singleton] at hb
    exact .inr (by rwa [hb])
  | true =>
    rw [esc_of_inEscSet hv, escPair, List.mem_cons, List.mem_singleton] at hb
    exact hb.imp_right fun hb => by rw [hb]; exact not_inEscSet_complement hv

theorem resync_not_mem_stuff (u : List Byte) : Config.resync ∉ stuff u := fun h => by
  obtain h | h := mem_stuff h <;> cases h

theorem term_not_mem_stuff (u : List Byte) : Config.term ∉ stuff u := fun h => by
  obtain h | h := mem_stuff h <;> cases h

theorem unstuff_literal (hb : inEscSet b = false) (l : List Byte) :
    unstuff (b :: l) = (unstuff l).map (b :: ·) := by
  have hmark : b ≠ Config.escMark := by rintro rfl; cases hb
  cases l <;> simp [unstuff, hb, hmark]

theorem unstuff_escPair (hb : inEscSet b = true) (l : List Byte) :
    unstuff (escPair b ++ l) = (unstuff l).map (b :: ·) := by
  simp [escPair, unstuff, hb]

@[simp] theorem unstuff_stuff (u : List Byte) : unstuff (stuff u) = some u := by
  induction u with
  | nil => rfl
  | cons b u ih =>
    rw [stuff_cons]
    cases hb : inEscSet b with
    | false => rw [esc_of_not_inEscSet hb, List.singleton_append, unstuff_literal hb, ih]; rfl
    | true => rw [esc_of_inEscSet hb, unstuff_escPair hb, ih]; rfl

/-- Strict reading (log entry 25): what is read is written back byte for byte. -/
theorem stuff_of_unstuff {l u : List Byte} (h : unstuff l = some u) : stuff u = l := by
  induction l using unstuff.induct generalizing u with
  | case1 => cases h; rfl
  | case2 b hb => rw [unstuff, if_pos hb] at h; cases h
  | case3 b hb => rw [unstuff, if_neg hb] at h; cases h; simp [esc, hb]
  | case4 b c rest hmark hc ih =>
    rw [unstuff, if_pos hmark, if_pos hc] at h
    obtain ⟨u', hu', rfl⟩ := Option.map_eq_some_iff.1 h
    rw [stuff_cons, esc_of_inEscSet hc, ih hu', escPair, complement_complement, beq_iff_eq.1 hmark]
    rfl
  | case5 b c rest hmark hc => rw [unstuff, if_pos hmark, if_neg hc] at h; cases h
  | case6 b c rest hmark hb => rw [unstuff, if_neg hmark, if_pos hb] at h; cases h
  | case7 b c rest hmark hb ih =>
    rw [unstuff, if_neg hmark, if_neg hb] at h
    obtain ⟨u', hu', rfl⟩ := Option.map_eq_some_iff.1 h
    rw [stuff_cons, ih hu', esc_of_not_inEscSet (by simpa using hb)]
    rfl

/-- The scan gives stuffed bytes back without a diagnostic and goes on with what follows them, which is at least the
terminator. -/
theorem scan_stuff_append (u : List Byte) {l : List Byte} (hl : l ≠ []) :
    scan (stuff u ++ l) = (u ++ (scan l).1, (scan l).2) := by
  induction u with
  | nil => rfl
  | cons b u ih =>
    rw [stuff_cons, List.append_assoc]
    obtain ⟨-, hesc, hmark⟩ | ⟨hb, hesc⟩ := esc_cases b
    · obtain ⟨c, rest, hrest⟩ := List.exists_cons_of_ne_nil (List.append_ne_nil_of_right_ne_nil (stuff u) hl)
      rw [hesc, hrest, List.singleton_append, scan_literal rest hmark, ← hrest, ih]
      rfl
    · have hback : b ^^^ 0xFF#8 ^^^ 0xFF#8 = b := complement_complement b
      rw [hesc, List.cons_append, List.singleton_append, scan_marker, hback, hb, ih]
      rfl

theorem encodeFrame_eq_cons (p : Byte) (m : List Byte) :
    encodeFrame p m = p :: (stuff (m ++ be16 (fcs m)) ++ [Config.term]) := rfl

theorem unescape_encodeFrame (p : Byte) (m : List Byte) :
    unescape (encodeFrame p m) = (m ++ be16 (fcs m), false) := by
  rw [encodeFrame_eq_cons, unescape, List.drop_one, List.tail_cons, scan_stuff_append _ (List.cons_ne_nil _ _)]
  simp [scan]

@[simp] theorem stripCrc_append_be16 (m : List Byte) (c : Word) : stripCrc (m ++ be16 c) = m := by
  simp [stripCrc]

end Sys2Proof.Machine
end

section
/-! ## Decoder and encoder agree (rules R70 to R93)

For each format: what the encoder writes is read back, and what is read is exactly what the encoder writes. -/

namespace Sys2Proof.Machine

variable {i : Instr} {b : Byte} {bs : List Byte}

theorem decodeRx_of_ne (hresync : b ≠ Config.resync) (hterm : b ≠ Config.term) : decodeRx b = .rxData b := by
  simp [decodeRx, hresync, hterm]

theorem encode_decodeRx (b : Byte) : encode (decodeRx b) = .line (.byte b) := by
  by_cases hresync : b = Config.resync
  · subst hresync; rfl
  · by_cases hterm : b = Config.term
    · subst hterm; rfl
    · rw [decodeRx_of_ne hresync hterm]; rfl

theorem decodeTx_of_not_inEscSet (h : inEscSet b = false) : decodeTx b = .txLit b := by
  have hne : ¬ (b = 0x06#8 ∨ b = 0x0D#8 ∨ b = 0x1B#8 ∨ b = 0x40#8 ∨ b = 0x80#8) := by simp [← inEscSet_iff, h]
  push Not at hne
  obtain ⟨h06, h0D, h1B, h40, h80⟩ := hne
  simp [decodeTx, h06, h0D, h1B, h40, h80]

theorem encode_decodeTx (b : Byte) : encode (decodeTx b) = .host (.item .wireTx [b]) := by
  cases hesc : inEscSet b with
  | false => rw [decodeTx_of_not_inEscSet hesc]; rfl
  | true => obtain rfl | rfl | rfl | rfl | rfl := (inEscSet_iff b).1 hesc <;> rfl

theorem encode_of_decodeScan (h : decodeScan bs = .ok i) : encode i = .host (.item .wireScan bs) := by
  unfold decodeScan at h
  split at h
  · split at h <;> cases h
    rfl
  · split at h
    · next hmark => cases h; rw [beq_iff_eq.1 hmark]; rfl
    · cases h
  · cases h

@[simp] theorem splitTerm_append_term (body : List Byte) : splitTerm (body ++ [Config.term]) = some body := by
  induction body with
  | nil => rfl
  | cons b body ih =>
    cases body with
    | nil => rfl
    | cons c body => rw [List.cons_append, List.cons_append, splitTerm, ← List.cons_append, ih]; rfl

theorem eq_append_term_of_splitTerm {body : List Byte} (h : splitTerm bs = some body) :
    bs = body ++ [Config.term] := by
  induction bs using splitTerm.induct generalizing body with
  | case1 => cases h
  | case2 t ht => rw [splitTerm, if_pos ht] at h; cases h; rw [beq_iff_eq.1 ht]; rfl
  | case3 t ht => rw [splitTerm, if_neg ht] at h; cases h
  | case4 b c rest ih =>
    obtain ⟨body', hbody', rfl⟩ := Option.map_eq_some_iff.1 h
    rw [ih hbody']
    rfl

theorem decodeFrame_encodeFrame (p : Byte) (m : List Byte) : decodeFrame (encodeFrame p m) = .ok (.frame p m) := by
  simp [encodeFrame_eq_cons, decodeFrame]

theorem encodeFrame_of_decodeFrame (h : decodeFrame bs = .ok i) : ∃ p m, i = .frame p m ∧ encodeFrame p m = bs := by
  unfold decodeFrame at h
  split at h
  · cases h
  next p rest =>
  split at h
  · cases h
  next body hbody =>
  split at h
  · cases h
  next u hu =>
  split at h
  · next hcrc =>
    cases h
    refine ⟨p, stripCrc u, rfl, ?_⟩
    rw [encodeFrame_eq_cons, ← beq_iff_eq.1 hcrc, stripCrc, List.take_append_drop, stuff_of_unstuff hu,
      eq_append_term_of_splitTerm hbody]
  · cases h

/-- The bytes of a word, put together again. -/
@[simp] theorem extract_append_extract (w : Word) : w.extractLsb' 8 8 ++ w.extractLsb' 0 8 = w := by
  have h : w.extractLsb' 8 8 ++ w.extractLsb' 0 8 = w.extractLsb' 0 (8 + 8) :=
    BitVec.extractLsb'_append_extractLsb'_eq_extractLsb' rfl
  exact h.trans BitVec.extractLsb'_eq_self

@[simp] theorem be16_append (hi lo : Byte) : be16 (hi ++ lo) = [hi, lo] := by
  rw [be16, BitVec.extractLsb'_append_eq_left, BitVec.extractLsb'_append_eq_right]

theorem valuePayload_eq_cons (reg : Word) (unit ctl : Byte) (mant tail : List Byte) :
    valuePayload reg unit ctl mant tail =
      Config.hdr0 :: Config.hdr1 :: reg.extractLsb' 8 8 :: reg.extractLsb' 0 8 :: unit :: BitVec.ofNat 8 mant.length
        :: ctl :: (mant ++ tail) := by
  simp [valuePayload, be16]

/-- The length byte of a reply holds the mantissa's length (rule R9). -/
theorem lengthByte_toNat {mant : List Byte} (h : mant.length ≤ 255) :
    (BitVec.ofNat 8 mant.length).toNat = mant.length := by
  rw [BitVec.toNat_ofNat]; omega

theorem decodePayload_valuePayload (reg : Word) (unit ctl : Byte) {mant : List Byte} (tail : List Byte)
    (h : mant.length ≤ 255) :
    decodePayload (valuePayload reg unit ctl mant tail) = .ok (.replyValue reg unit ctl mant tail) := by
  rw [valuePayload_eq_cons, decodePayload]
  simp [decodeReply, -BitVec.toNat_ofNat, lengthByte_toNat h]

theorem decodePayload_requestPayload (id : Word) : decodePayload (requestPayload id) = .ok (.reqRead id) := by
  simp [requestPayload, be16, decodePayload]

theorem encode_of_decodeReply {rh rl unit len ctl : Byte} {rest : List Byte}
    (h : decodeReply rh rl unit len ctl rest = .ok i) :
    encode i = .host (.item .payload (Config.hdr0 :: Config.hdr1 :: rh :: rl :: unit :: len :: ctl :: rest)) := by
  unfold decodeReply at h
  split at h
  · next hlen =>
    cases h
    simp [encode, valuePayload, hlen]
  · cases h

theorem encode_of_decodePayload (h : decodePayload bs = .ok i) : encode i = .host (.item .payload bs) := by
  unfold decodePayload at h
  split at h
  · cases h; rfl
  · split at h <;> cases h
    next hheader =>
    simp only [Bool.and_eq_true, beq_iff_eq] at hheader
    obtain ⟨rfl, rfl⟩ := hheader
    rfl
  · split at h <;> cases h
    next hheader =>
    simp only [Bool.and_eq_true, beq_iff_eq] at hheader
    obtain ⟨⟨rfl, rfl⟩, rfl⟩ := hheader
    simp [encode, requestPayload]
  · split at h
    · next hheader =>
      simp only [Bool.and_eq_true, beq_iff_eq] at hheader
      obtain ⟨rfl, rfl⟩ := hheader
      exact encode_of_decodeReply h
    · cases h
  · cases h

/-- Every well-formed instruction is read back from its encoding. -/
theorem decode_encode (hwf : i.wf = true) : decode (encode i) = .ok i := by
  cases i with
  | crcClr | crcBit | crcByte | encPush | encSend | decArm | unpDecode | reserved0 | reserved8 | reserved9 | reservedA
  | reservedB | reservedC | reservedD | reservedE | reservedF => simp [encode, decode, decodeCmd]
  | rxResync | rxTerm | rxTimeout | reset | txEsc06 | txEsc0D | txEsc1B | txEsc40 | txEsc80 | scanPair | replyEmpty
  | expCtrl => rfl
  | rxData b =>
    obtain ⟨hresync, hterm⟩ : b ≠ Config.resync ∧ b ≠ Config.term := by simpa [Instr.wf] using hwf
    exact congrArg Except.ok (decodeRx_of_ne hresync hterm)
  | txLit b => exact congrArg Except.ok (decodeTx_of_not_inEscSet (by simpa [Instr.wf] using hwf))
  | scanLit x =>
    have hmark : x ≠ Config.escMark := by simpa [Instr.wf] using hwf
    simp [encode, decode, decodeScan, hmark]
  | frame p m => exact decodeFrame_encodeFrame p m
  | reqRead id => exact decodePayload_requestPayload id
  | replyValue reg unit ctl mant tail =>
    exact decodePayload_valuePayload reg unit ctl tail (by simpa [Instr.wf] using hwf)

/-- What the decoder accepts is exactly the encoding of what it reads, but for a command word's ignored bits. -/
theorem encode_of_decode {p : Port} (h : decode p = .ok i) (hword : ∀ w, p ≠ .host (.word w)) : encode i = p := by
  unfold decode at h
  split at h
  · next w => exact absurd rfl (hword w)
  · cases h; rfl
  · cases h; exact encode_decodeTx _
  · cases h
  · exact encode_of_decodeScan h
  · obtain ⟨p, m, rfl, hbs⟩ := encodeFrame_of_decodeFrame h
    rw [encode, hbs]
  · exact encode_of_decodePayload h
  · cases h; exact encode_decodeRx _
  · cases h; rfl

/-- Settles O6: `decode_encode`, format by format. -/
theorem decodeOfEncodeIsTheInstruction : Obligations.DecodeOfEncodeIsTheInstruction := fun _ => decode_encode

/-- Settles O7: what is accepted is well formed, so `decode_encode` reads it again (FRAME strictly, log entry 25). -/
theorem decodedIsWellFormedAndExact : Obligations.DecodedIsWellFormedAndExact := fun _ _ h =>
  ⟨wf_of_decode h, encode_of_decode h, decode_encode (wf_of_decode h)⟩

/-- Settles O8: each word is evaluated; frame E3 is the encoding of its payload. -/
theorem writtenOutWordsDecode : Obligations.WrittenOutWordsDecode := by
  have hE3 : encodeFrame 0x80#8 [0x3F#8, 0x10#8, 0x01#8, 0x06#8, 0x80#8] =
      [0x80#8, 0x3F#8, 0x10#8, 0x01#8, 0x1B#8, 0xF9#8, 0x1B#8, 0x7F#8, 0x7E#8, 0xAE#8, 0x0D#8] := by decide +kernel
  refine ⟨rfl, rfl, rfl, rfl, rfl, rfl, rfl, rfl, ?_⟩
  rw [← hE3, decode, decodeFrame_encodeFrame]

end Sys2Proof.Machine
end

section
/-! ## The wire rows run by themselves (log entry 11) -/

namespace Sys2Proof.Machine

theorem State.emit_emit (bs cs : List Byte) (s : State) : (s.emit bs).emit cs = s.emit (bs ++ cs) := by
  simp [State.emit]

/-- The row in which a byte is sent puts out its escape form (rule R121). -/
theorem exec_decodeTx (b : Byte) (s : State) : exec (decodeTx b) s = .next (s.emit (esc b)) := by
  cases hesc : inEscSet b with
  | false => rw [decodeTx_of_not_inEscSet hesc, esc_of_not_inEscSet hesc]; rfl
  | true => obtain rfl | rfl | rfl | rfl | rfl := (inEscSet_iff b).1 hesc <;> rfl

theorem execAll_decodeTx (m : List Byte) (s : State) : execAll (m.map decodeTx) s = .next (s.emit (stuff m)) := by
  induction m generalizing s with
  | nil => simp [execAll, State.emit]
  | cons b m ih => rw [List.map_cons, execAll, exec_decodeTx, andThen_next, ih, State.emit_emit, stuff_cons]

/-- Settles O20: the six rows, and `execAll_decodeTx` for a sequence (log entry 11). -/
theorem txRowsStuffTheBytes : Obligations.TxRowsStuffTheBytes :=
  ⟨fun _ _ => ⟨rfl, rfl, rfl, rfl, rfl, rfl⟩, fun s m => execAll_decodeTx m s⟩

/-- Rule R148 on the received byte: the five that raise no diagnostic are the complements of the Escape Table. -/
theorem missingEscape_complement (x : Byte) :
    missingEscape (x ^^^ 0xFF#8) = !decide (x ∈ [0xF9#8, 0xF2#8, 0xE4#8, 0xBF#8, 0x7F#8]) := by
  have hxor (a : Byte) : x ^^^ 0xFF#8 = a ↔ x = a ^^^ 0xFF#8 := by
    rw [← BitVec.xor_left_inj 0xFF#8, show x ^^^ 0xFF#8 ^^^ 0xFF#8 = x from complement_complement x]
  rw [missingEscape, Bool.not_inj_iff, Bool.eq_iff_iff, inEscSet_iff]
  simp [hxor]

/-- The work area after scan rows that together give these bytes and this diagnostic. -/
def State.scannedAll (r : List Byte × Bool) (s : State) : State :=
  { s with work := { s.work with u := s.work.u ++ r.1, me := s.work.me || r.2 } }

theorem State.scannedAll_scanned (v : Byte) (me : Bool) (r : List Byte × Bool) (s : State) :
    (s.scanned v me).scannedAll r = s.scannedAll (v :: r.1, me || r.2) := by
  simp [State.scannedAll, State.scanned, Bool.or_assoc]

theorem exec_scanPair (x : Byte) (s : State) :
    exec (.scanPair x) s = .next (s.scanned (x ^^^ Config.escXor) (missingEscape (x ^^^ Config.escXor))) := rfl

theorem exec_scanLit (x : Byte) (s : State) : exec (.scanLit x) s = .next (s.scanned x false) := rfl

theorem execAll_scanItems (l : List Byte) (s : State) : execAll (scanItems l) s = .next (s.scannedAll (scan l)) := by
  induction l using scan.induct generalizing s with
  | case1 => simp [scanItems, scan, execAll, State.scannedAll]
  | case2 => simp [scanItems, scan, execAll, State.scannedAll]
  | case3 b c rest hmark ih =>
    rw [scanItems, scan, if_pos hmark, if_pos hmark, execAll, exec_scanPair, andThen_next, ih, State.scannedAll_scanned]
    rfl
  | case4 b c rest hmark ih =>
    rw [scanItems, scan, if_neg hmark, if_neg hmark, execAll, exec_scanLit, andThen_next, ih, State.scannedAll_scanned]
    rfl

/-- Settles O30: the two rows, and `execAll_scanItems` for a buffer (log entry 11). -/
theorem scanRowsUnescapeTheBuffer : Obligations.ScanRowsUnescapeTheBuffer := by
  refine ⟨fun s x => ⟨?pair, ?literal⟩, fun s buf => execAll_scanItems (buf.drop 1) s⟩
  case pair => rw [← missingEscape_complement, exec_scanPair]; rfl
  case literal => rw [exec_scanLit, State.scanned, Bool.or_false]

end Sys2Proof.Machine
end

section
/-! ## The residue of a payload with its own CRC (rules R102, R109)

The CRC step is linear over GF(2), and a word shifted into the cleared register is the register, so the CRC bytes
cancel what two zero bytes would have left. -/

namespace Sys2Proof.Machine

/-- Rule R102 bit by bit: the message bit enters at bit 0, and the old top bit feeds the polynomial back. -/
theorem crcShift_getLsbD (c : Word) (b : Bool) {i : Nat} (hi : i < 16) :
    (crcShift c b).getLsbD i =
      ((if i = 0 then b else c.getLsbD (i - 1)) ^^ (c.getLsbD 15 && Config.poly.getLsbD i)) := by
  have hshift (j : Nat) : (c ++ BitVec.ofBool b).getLsbD j = if j = 0 then b else c.getLsbD (j - 1) := by
    rw [BitVec.getLsbD_append]
    cases j <;> simp
  have htop : (c ++ BitVec.ofBool b).getLsbD 16 = c.getLsbD 15 := hshift 16
  simp only [crcShift]
  rw [htop]
  cases c.getLsbD 15 <;> simp [hi, hshift, -BitVec.getLsbD_eq_getElem]

/-- The step is linear over GF(2). -/
theorem crcShift_xor (c d : Word) (a b : Bool) :
    crcShift (c ^^^ d) (a ^^ b) = crcShift c a ^^^ crcShift d b := by
  apply BitVec.eq_of_getLsbD_eq
  intro i hi
  simp only [BitVec.getLsbD_xor, crcShift_getLsbD _ _ hi, Bool.and_xor_distrib_right]
  split <;> simp only [Bool.xor_assoc, Bool.xor_left_comm]

theorem crcByteStep_xor (c d : Word) (v w : Byte) :
    crcByteStep (c ^^^ d) (v ^^^ w) = crcByteStep c v ^^^ crcByteStep d w := by
  simp only [crcByteStep, bitsOf, BitVec.getLsbD_xor, List.foldl_cons, List.foldl_nil, crcShift_xor]

/-- Without a top bit the step doubles the register and adds the message bit. -/
theorem crcShift_toNat {c : Word} (hc : c.toNat < 2 ^ 15) (b : Bool) :
    (crcShift c b).toNat = 2 * c.toNat + b.toNat := by
  have htop : (c ++ BitVec.ofBool b).getLsbD 16 = false := by
    rw [BitVec.getLsbD_append]; exact Nat.testBit_lt_two_pow hc
  simp only [crcShift]
  rw [htop, if_neg Bool.false_ne_true, BitVec.toNat_setWidth, toNat_append_eq, BitVec.toNat_ofBool]
  have := b.toNat_le
  omega

/-- While no bit leaves the register, the bits shifted in are binary digits after those already there. -/
theorem foldl_crcShift_toNat {c : Word} {w : List Bool} (hroom : (c.toNat + 1) * 2 ^ w.length ≤ 2 ^ 16) :
    (w.foldl crcShift c).toNat = w.foldl (fun n b => 2 * n + b.toNat) c.toNat := by
  induction w generalizing c with
  | nil => rfl
  | cons b w ih =>
    rw [List.length_cons, pow_succ] at hroom
    have hpow : 1 ≤ 2 ^ w.length := Nat.one_le_two_pow
    have hc : c.toNat < 2 ^ 15 := by nlinarith
    have hstep := crcShift_toNat hc b
    rw [List.foldl_cons, List.foldl_cons, ← hstep]
    have := b.toNat_le
    exact ih (by rw [hstep]; nlinarith)

/-- The bits of a byte, most significant first, spell it. -/
theorem foldl_bitsOf (n : Nat) (v : Byte) :
    (bitsOf v).foldl (fun n b => 2 * n + b.toNat) n = n * 256 + v.toNat := by
  simp only [bitsOf, List.foldl_cons, List.foldl_nil, BitVec.getLsbD, Nat.toNat_testBit]
  have := v.isLt
  omega

/-- A byte shifted into a register below 256 is a digit to the base 256. -/
theorem crcByteStep_toNat {c : Word} (hc : c.toNat < 2 ^ 8) (v : Byte) :
    (crcByteStep c v).toNat = c.toNat * 256 + v.toNat := by
  rw [crcByteStep, foldl_crcShift_toNat (by simp only [bitsOf, List.length_cons, List.length_nil]; omega), foldl_bitsOf]

/-- From the cleared register a word's two bytes are the register themselves. -/
theorem crcFrom_zero_be16 (w : Word) : crcFrom 0#16 (be16 w) = w := by
  apply BitVec.eq_of_toNat_eq
  have hhi : (crcByteStep 0#16 (w.extractLsb' 8 8)).toNat = (w.extractLsb' 8 8).toNat := by
    rw [crcByteStep_toNat (by decide)]; simp
  rw [be16, crcFrom_cons, crcFrom_cons, crcFrom_nil, crcByteStep_toNat (by rw [hhi]; exact BitVec.isLt _), hhi]
  simp only [BitVec.extractLsb'_toNat]
  have := w.isLt
  omega

/-- Any two bytes shift in as zeros do, with the bytes themselves added. -/
theorem crcFrom_be16 (c w : Word) : crcFrom c (be16 w) = crcFrom c [0x00#8, 0x00#8] ^^^ w := by
  have hsplit : crcFrom (c ^^^ 0#16) (be16 (0#16 ^^^ w)) = crcFrom c [0x00#8, 0x00#8] ^^^ crcFrom 0#16 (be16 w) := by
    simp only [be16, crcFrom_cons, crcFrom_nil, BitVec.extractLsb'_xor, crcByteStep_xor]
    rfl
  rwa [crcFrom_zero_be16, BitVec.xor_zero, BitVec.zero_xor] at hsplit

/-- Rule R109. -/
theorem crc16_append_fcs (m : List Byte) : crc16 (m ++ be16 (fcs m)) = 0#16 := by
  have hfcs : fcs m = crcFrom (crc16 m) [0x00#8, 0x00#8] := crcFrom_append _ m _
  calc crc16 (m ++ be16 (fcs m))
      = crcFrom (crc16 m) (be16 (fcs m)) := crcFrom_append _ m _
    _ = fcs m ^^^ fcs m := by rw [crcFrom_be16, ← hfcs]
    _ = 0#16 := BitVec.xor_self

end Sys2Proof.Machine
end

section
/-! ## Staging and sending a request (rules R124, R125, R224) -/

namespace Sys2Proof.Machine

variable {s : State} {m : List Byte}

/-- The bytes staged after those already there, each push answered OK. -/
def State.staged (vs : List Byte) (s : State) : State :=
  { s with
    blk := { s.blk with txBuf := s.blk.txBuf ++ vs }
    env := { s.env with answers := List.replicate vs.length .ok ++ s.env.answers } }

theorem State.staged_staged (vs ws : List Byte) (s : State) : (s.staged vs).staged ws = s.staged (vs ++ ws) := by
  simp [State.staged, ← List.append_assoc, Nat.add_comm]

theorem execEncPush_of_room (v : Byte) (hready : s.ready) (hroom : s.params.txBufMax ≠ some s.blk.txBuf.length) :
    execEncPush v s = .next (s.staged [v]) :=
  hostOp_taken (by rw [State.ready_iff.1 hready, full_eq_false.2 hroom]; rfl)

/-- With room for all of them the bytes are staged in order. -/
theorem pushAll_of_room {vs : List Byte} (hready : s.ready)
    (hroom : ∀ n, s.params.txBufMax = some n → s.blk.txBuf.length + vs.length ≤ n) :
    pushAll vs s = .next (s.staged vs) := by
  induction vs generalizing s with
  | nil => simp [pushAll, State.staged]
  | cons v vs ih =>
    have hfirst : s.params.txBufMax ≠ some s.blk.txBuf.length := fun hcap => by simpa using hroom _ hcap
    have hrest (n : Nat) (hn : s.params.txBufMax = some n) : (s.blk.txBuf ++ [v]).length + vs.length ≤ n := by
      have := hroom n hn
      simp only [List.length_cons, List.length_append, List.length_nil] at this ⊢
      omega
    rw [pushAll, execEncPush_of_room v hready hfirst, andThen_next, ih (s := s.staged [v]) hready hrest,
      State.staged_staged, List.singleton_append]

/-- Rule R7. -/
theorem five_le_txBufMax {ps : Params} {n : Nat} (hlegal : ps.legal = true) (hn : ps.txBufMax = some n) : 5 ≤ n := by
  simp only [Params.legal, hn, Option.all_some, Bool.and_eq_true, decide_eq_true_eq] at hlegal
  exact hlegal.1

/-- The five bytes of a request fit an empty buffer. -/
theorem pushAll_requestPayload (id : Word) (hready : s.ready) (hempty : s.blk.txBuf = [])
    (hlegal : s.params.legal = true) : pushAll (requestPayload id) s = .next (s.staged (requestPayload id)) :=
  pushAll_of_room hready fun n hn => by simpa [hempty, requestPayload] using five_le_txBufMax hlegal hn

/-- Settles O22: the five pushes of the request (log entry 12). -/
theorem requestIsStaged : Obligations.RequestIsStaged := by
  intro s id hready hempty hlegal
  refine (pushAll_requestPayload id hready hempty hlegal).trans ?_
  rw [State.staged, hempty]
  rfl

theorem execAll_append (is js : List Instr) (s : State) :
    execAll (is ++ js) s = andThen (execAll is s) (execAll js) := by
  induction is generalizing s with
  | nil => rfl
  | cons i is ih => rw [List.cons_append, execAll, execAll, andThen_assoc, funext ih]

theorem execAll_map_encPush (m : List Byte) (s : State) : execAll (m.map .encPush) s = pushAll m s := by
  induction m generalizing s with
  | nil => rfl
  | cons v m ih => rw [List.map_cons, execAll, pushAll, funext ih]; rfl

/-- ENC.FRAME of rule R96: once the payload is staged, the write. -/
theorem execAll_encFrameOps (p : Byte) (hready : s.ready) (hpush : pushAll m s = .next (s.staged m)) :
    execAll (encFrameOps p m) s = .next ((sendFrame p (s.staged m)).answer .ok) := by
  have hidle : (s.staged m).blk.busy = false := State.ready_iff.1 hready
  have hsend : exec (.encSend p) (s.staged m) = .next ((sendFrame p (s.staged m)).answer .ok) :=
    hostOp_taken (by rw [hidle]; rfl)
  rw [encFrameOps, execAll_append, execAll_map_encPush, hpush, andThen_next, execAll, hsend, andThen_next, execAll]

end Sys2Proof.Machine
end

section
/-! ## Receiving a frame or silence (rules R141 to R152, R157) -/

namespace Sys2Proof.Machine

variable {s : State} {b p : Byte} {m bs : List Byte}

/-- What a byte that is no terminator makes of the buffer: 0x40 restarts it, another is appended (rules R144, R145). -/
def takeByte (buf : List Byte) (b : Byte) : List Byte := if b = Config.resync then [Config.resync] else buf ++ [b]

theorem takeByte_nil (b : Byte) : takeByte [] b = [b] := by
  by_cases h : b = Config.resync <;> simp [takeByte, h]

theorem takeByte_length_le (buf : List Byte) (b : Byte) : (takeByte buf b).length ≤ buf.length + 1 := by
  rw [takeByte]; split <;> simp

theorem foldl_takeByte_of_no_resync (h : Config.resync ∉ bs) (buf : List Byte) :
    bs.foldl takeByte buf = buf ++ bs := by
  induction bs generalizing buf with
  | nil => rw [List.foldl_nil, List.append_nil]
  | cons b bs ih =>
    obtain ⟨hb, hbs⟩ := List.ne_and_not_mem_of_not_mem_cons h
    rw [List.foldl_cons, ih hbs, takeByte, if_neg hb.symm, List.append_assoc, List.singleton_append]

/-- The block with this `rx_buf`. -/
def Block.withRxBuf (buf : List Byte) (b : Block) : Block := { b with rxBuf := buf }

/-- Rules R144 and R145, with room for the byte. -/
theorem rxSymbol_byte (hlisten : s.listening) (hterm : b ≠ Config.term)
    (hroom : s.params.rxBufMax ≠ some s.blk.rxBuf.length) :
    rxSymbol (.byte b) s = .next (s.onBlock (Block.withRxBuf (takeByte s.blk.rxBuf b))) := by
  have hpulls := State.listening_iff.1 hlisten
  rw [rxSymbol, rxByte_eq_exec]
  by_cases hresync : b = Config.resync
  · rw [takeByte, if_pos hresync, hresync]
    exact rxOp_pulled (f := fun _ => Block.rxResync) hpulls
  · rw [takeByte, if_neg hresync, decodeRx_of_ne hresync hterm]
    refine (rxOp_pulled hpulls).trans (congrArg Host.Outcome.next ?_)
    rw [State.onBlock, Block.rxData_of_room (full_eq_false.2 hroom)]
    rfl

/-- Bytes without a terminator, with room for all of them, are taken into the buffer one after another. -/
theorem receive_bytes (rest : List Symbol) (hlisten : s.listening) (hterm : Config.term ∉ bs)
    (hroom : ∀ n, s.params.rxBufMax = some n → s.blk.rxBuf.length + bs.length ≤ n) :
    receive (bs.map .byte ++ rest) s = receive rest (s.onBlock (Block.withRxBuf (bs.foldl takeByte s.blk.rxBuf))) := by
  induction bs generalizing s with
  | nil => rfl
  | cons b bs ih =>
    obtain ⟨hb, hbs⟩ := List.ne_and_not_mem_of_not_mem_cons hterm
    have hfirst : s.params.rxBufMax ≠ some s.blk.rxBuf.length := fun hcap => by simpa using hroom _ hcap
    have hrest (n : Nat) (hn : s.params.rxBufMax = some n) : (takeByte s.blk.rxBuf b).length + bs.length ≤ n := by
      have := hroom n hn
      have := takeByte_length_le s.blk.rxBuf b
      rw [List.length_cons] at *
      omega
    rw [List.map_cons, List.cons_append, receive_pulled (State.listening_iff.1 hlisten),
      rxSymbol_byte hlisten hb.symm hfirst, andThen_next,
      ih (s := s.onBlock (Block.withRxBuf (takeByte s.blk.rxBuf b))) hlisten hbs hrest]
    rfl

theorem receive_term (hlisten : s.listening) (hroom : s.params.rxBufMax ≠ some s.blk.rxBuf.length) :
    receive [.byte Config.term] s = .next (s.onBlock Block.endFrame) := by
  have hpulls := State.listening_iff.1 hlisten
  have hterm : rxSymbol (.byte Config.term) s = .next (s.onBlock Block.endFrame) := by
    refine (rxOp_pulled hpulls).trans (congrArg Host.Outcome.next ?_)
    rw [State.onBlock, Block.rxTerm_of_room (full_eq_false.2 hroom)]
    rfl
  rw [receive_pulled hpulls, hterm, andThen_next, receive]

theorem receive_timeout (hlisten : s.listening) : receive [.timeout] s = .next (s.onBlock Block.rxTimeout) := by
  have hpulls := State.listening_iff.1 hlisten
  rw [receive_pulled hpulls, rxSymbol, execRxTimeout, rxOp_pulled hpulls, andThen_next, receive]

/-- After DEC.ARM, answered OK. -/
def State.armed (s : State) : State := (s.onBlock Block.arm).answer .ok

theorem State.listening_armed (hready : s.ready) : s.armed.listening := ⟨rfl, hready.1⟩

theorem decFrame_of_ready (xs : List Symbol) (hready : s.ready) : decFrame xs s = receive xs s.armed := by
  have harm : exec .decArm s = .next s.armed := hostOp_taken (by rw [State.ready_iff.1 hready]; rfl)
  rw [decFrame, harm, andThen_next]

/-- The block after DEC.ARM and a frame of the payload `m`: the payload, no diagnostic and residue 0 (rule R157). -/
def Block.received (m : List Byte) (b : Block) : Block :=
  { b.arm with crc := 0#16, pl := m, decResult := .frame, decState := .idle }

/-- A terminator after the rest of a frame: un-escape gives payload and CRC, whose residue is zero. -/
theorem Block.endFrame_of_frame (p : Byte) (m : List Byte) (b : Block) :
    (b.arm.withRxBuf (p :: stuff (m ++ be16 (fcs m)))).endFrame = b.received m := by
  have hunescape : unescape (p :: stuff (m ++ be16 (fcs m)) ++ [Config.term]) = (m ++ be16 (fcs m), false) :=
    unescape_encodeFrame p m
  simp only [Block.endFrame, Block.withRxBuf, hunescape, crc16_append_fcs, stripCrc_append_be16]
  rfl

/-- Rule R157: arming and receiving a frame that fits gives its payload back. The frame's first byte starts the buffer,
be it 0x40 or another, and what follows holds neither 0x40 nor, before its end, 0x0D. -/
theorem decFrame_encodeFrame (hready : s.ready) (hp : p ≠ Config.term)
    (hroom : ∀ n, s.params.rxBufMax = some n → (encodeFrame p m).length ≤ n) :
    decFrame ((encodeFrame p m).map .byte) s = .next ((s.onBlock (Block.received m)).answer .ok) := by
  have hlisten := State.listening_armed hready
  obtain ⟨body, hbody⟩ : ∃ body, body = p :: stuff (m ++ be16 (fcs m)) := ⟨_, rfl⟩
  have hframe : encodeFrame p m = body ++ [Config.term] := by rw [hbody]; rfl
  have hterm : Config.term ∉ body :=
    hbody ▸ List.not_mem_cons_of_ne_of_not_mem hp.symm (term_not_mem_stuff _)
  have hbuf : body.foldl takeByte [] = body := by
    rw [hbody, List.foldl_cons, takeByte_nil, foldl_takeByte_of_no_resync (resync_not_mem_stuff _)]
    rfl
  have hfits (n : Nat) (hn : s.params.rxBufMax = some n) : body.length < n := by
    have := hroom n hn
    rw [hframe, List.length_append, List.length_singleton] at this
    omega
  have htaken : decFrame ((encodeFrame p m).map .byte) s =
      receive [.byte Config.term] (s.armed.onBlock (Block.withRxBuf body)) := by
    rw [decFrame_of_ready _ hready, hframe, List.map_append,
      receive_bytes _ hlisten hterm fun n hn => by simpa [State.armed] using (hfits n hn).le]
    exact congrArg (fun buf => receive _ (s.armed.onBlock (Block.withRxBuf buf))) hbuf
  rw [htaken, receive_term (s := s.armed.onBlock (Block.withRxBuf body)) hlisten fun hcap => (hfits _ hcap).ne rfl]
  refine congrArg (fun k => Host.Outcome.next ((s.onBlock fun _ => k).answer .ok)) ?_
  rw [hbody]
  exact Block.endFrame_of_frame p m s.blk

/-- Rules R145 and R152: bytes that end no frame, then a timeout, leave no frame. -/
theorem decFrame_silence (hready : s.ready) (hterm : Config.term ∉ bs)
    (hroom : ∀ n, s.params.rxBufMax = some n → bs.length ≤ n) :
    decFrame (bs.map .byte ++ [.timeout]) s = .next ((s.onBlock fun b => b.arm.rxTimeout).answer .ok) := by
  have hlisten := State.listening_armed hready
  rw [decFrame_of_ready _ hready,
    receive_bytes [.timeout] hlisten hterm fun n hn => by simpa [State.armed] using hroom n hn]
  exact receive_timeout (s := s.armed.onBlock (Block.withRxBuf _)) hlisten

end Sys2Proof.Machine
end

section
/-! ## A reply unpacked, and one whole READ_REGISTER (rules R96, R171 to R181, R223) -/

namespace Sys2Proof.Machine

variable {s : State} {p : Byte} {m bs : List Byte} {o : UnpOutcome} {v : ValueFields}

/-- The block with this outcome and these fields reported. -/
def Block.reporting (o : UnpOutcome) (v : ValueFields) (b : Block) : Block := { b with unpOutcome := o, value := v }

/-- Rule R171: UNP.DECODE after a finished receive reports what `unpack` gives. -/
theorem exec_unpDecode (hready : s.ready) (hdone : s.blk.decResult ≠ .none)
    (h : unpack s.blk.decResult s.blk.pl = (o, v)) :
    exec .unpDecode s = .next ((s.onBlock (Block.reporting o v)).answer .ok) := by
  have htaken : exec .unpDecode s = .next ((s.onBlock Block.unpacked).answer .ok) :=
    hostOp_taken (by rw [State.ready_iff.1 hready]; simpa using hdone)
  rw [htaken, State.onBlock, Block.unpacked, h]
  rfl

/-- A frame received and its payload unpacked. -/
theorem unpDecode_decFrame_encodeFrame (hready : s.ready) (hp : p ≠ Config.term)
    (hroom : ∀ n, s.params.rxBufMax = some n → (encodeFrame p m).length ≤ n) (h : unpack .frame m = (o, v)) :
    andThen (decFrame ((encodeFrame p m).map .byte) s) (exec .unpDecode) =
      .next (((s.onBlock fun b => (b.received m).reporting o v).answer .ok).answer .ok) := by
  rw [decFrame_encodeFrame hready hp hroom, andThen_next,
    exec_unpDecode (s := (s.onBlock (Block.received m)).answer .ok) ⟨hready.1, rfl⟩ DecResult.noConfusion h]
  rfl

/-- No frame received, and reported (rule R174). -/
theorem unpDecode_decFrame_silence (hready : s.ready) (hterm : Config.term ∉ bs)
    (hroom : ∀ n, s.params.rxBufMax = some n → bs.length ≤ n) :
    andThen (decFrame (bs.map .byte ++ [.timeout]) s) (exec .unpDecode) =
      .next (((s.onBlock fun b => b.arm.rxTimeout.reporting .noResponse .zero).answer .ok).answer .ok) := by
  rw [decFrame_silence hready hterm hroom, andThen_next,
    exec_unpDecode (s := (s.onBlock fun b => b.arm.rxTimeout).answer .ok) ⟨hready.1, rfl⟩ DecResult.noConfusion rfl]
  rfl

/-- Rule R14: the two bytes of a word, high byte first, are its number. -/
theorem ofNat_extract_bytes (w : Word) :
    BitVec.ofNat 16 ((w.extractLsb' 8 8).toNat * 256 + (w.extractLsb' 0 8).toNat) = w := by
  apply BitVec.eq_of_toNat_eq
  simp only [BitVec.toNat_ofNat, BitVec.extractLsb'_toNat]
  omega

theorem valuePayload_lengthByte (reg : Word) (unit ctl : Byte) {mant : List Byte} (tail : List Byte)
    (h : mant.length ≤ 255) : (byteAt (valuePayload reg unit ctl mant tail) 5).toNat = mant.length := by
  rw [valuePayload_eq_cons]; exact lengthByte_toNat h

/-- The fields of the reply layout are its own, whatever follows the mantissa (rules R85, R177, R181). -/
theorem fieldsOf_valuePayload (reg : Word) (unit ctl : Byte) {mant : List Byte} (tail : List Byte)
    (h : mant.length ≤ 255) :
    fieldsOf (valuePayload reg unit ctl mant tail) =
      { regEcho := reg, unit := unit, unitKnown := unitKnownOf unit, mantLen := BitVec.ofNat 8 mant.length,
        expCtrl := ctl, sign := signOf ctl, exp := expOf ctl, mant := benat mant } := by
  have hmant : slice (valuePayload reg unit ctl mant tail) 7 (7 + mant.length) = mant := by
    simp [valuePayload_eq_cons, slice]
  rw [fieldsOf, valuePayload_lengthByte reg unit ctl tail h, hmant, valuePayload_eq_cons]
  exact congrArg (fun r => ({ regEcho := r, .. } : ValueFields)) (ofNat_extract_bytes reg)

/-- A reply with a value passes every test of rule R172. -/
theorem unpack_valuePayload (reg : Word) (unit ctl : Byte) {mant : List Byte} (tail : List Byte)
    (h : mant.length ≤ 255) :
    unpack .frame (valuePayload reg unit ctl mant tail) =
      (.value,
        { regEcho := reg, unit := unit, unitKnown := unitKnownOf unit, mantLen := BitVec.ofNat 8 mant.length,
          expCtrl := ctl, sign := signOf ctl, exp := expOf ctl, mant := benat mant }) := by
  have hlength : (valuePayload reg unit ctl mant tail).length = 7 + mant.length + tail.length := by
    simp [valuePayload_eq_cons]; omega
  have hheader : goodHeader (valuePayload reg unit ctl mant tail) = true := rfl
  rw [unpack, if_neg DecResult.noConfusion, hlength, if_neg (by omega), hheader, if_neg (by decide), if_neg (by omega),
    if_neg (by omega), valuePayload_lengthByte reg unit ctl tail h, if_neg (by omega),
    fieldsOf_valuePayload reg unit ctl tail h]

/-- Settles O42: the reply's frame, with 0x40 as its first byte, received and unpacked (log entries 12 and 22). -/
theorem valueReplyIsUnpacked : Obligations.ValueReplyIsUnpacked := by
  intro s reg unit ctl mant tail hready hmant hroom
  exact unpDecode_decFrame_encodeFrame (p := Config.resync) hready (by decide) hroom
    (unpack_valuePayload reg unit ctl tail hmant)

/-- After the request for register `id` is staged and sent. -/
def State.requested (id : Word) (s : State) : State :=
  (sendFrame Config.prefixReq (s.staged (requestPayload id))).answer .ok

theorem readRegister_of_ready (id : Word) (xs : List Symbol) (hready : s.ready) (hempty : s.blk.txBuf = [])
    (hlegal : s.params.legal = true) :
    readRegister id xs s = andThen (decFrame xs (s.requested id)) (exec .unpDecode) := by
  rw [readRegister, execAll_encFrameOps _ hready (pushAll_requestPayload id hready hempty hlegal), andThen_next,
    State.requested]

/-- A write that is answered OK raises no fault. -/
theorem State.ready_requested (id : Word) (hready : s.ready) (hanswer : s.env.nextTxAnswer = .ok) :
    (s.requested id).ready := by
  have hanswer' : (s.staged (requestPayload id)).env.nextTxAnswer = .ok := hanswer
  have hblk := sendFrame_blk Config.prefixReq (s.staged (requestPayload id))
  rw [hanswer'] at hblk
  rw [State.ready, State.requested, State.answer_blk, hblk]
  simpa [State.ready, Block.faulted, State.staged] using hready

/-- The frame of the request is written, once. -/
theorem State.requested_writes (id : Word) (hempty : s.blk.txBuf = []) (hanswer : s.env.nextTxAnswer = .ok) :
    (s.requested id).env.writes = (encodeFrame Config.prefixReq (requestPayload id), .ok) :: s.env.writes := by
  have hstaged : (s.staged (requestPayload id)).blk.txBuf = requestPayload id := by rw [State.staged, hempty]; rfl
  have hanswer' : (s.staged (requestPayload id)).env.nextTxAnswer = .ok := hanswer
  rw [State.requested, State.answer_env_writes, sendFrame, Env.txWrite_writes, hstaged, hanswer']
  rfl

/-- Settles O43: the request written (`State.requested_writes`), then a reply unpacked or a silence reported. -/
theorem readRegisterEndToEnd : Obligations.ReadRegisterEndToEnd := by
  intro s id hready hempty hlegal hanswer
  have hready' := State.ready_requested id hready hanswer
  have hwrites := State.requested_writes id hempty hanswer
  refine ⟨fun p reg unit ctl mant tail hp hmant hroom => ?reply, fun bs hterm hroom => ?silence⟩
  case reply =>
    have hread := unpDecode_decFrame_encodeFrame hready' hp hroom (unpack_valuePayload reg unit ctl tail hmant)
    exact ⟨_, (readRegister_of_ready id _ hready hempty hlegal).trans hread, hwrites, rfl, rfl, rfl, hready'.1, rfl,
      rfl⟩
  case silence =>
    have hread := unpDecode_decFrame_silence hready' hterm hroom
    exact ⟨_, (readRegister_of_ready id _ hready hempty hlegal).trans hread, hwrites, rfl, rfl, hready'.1, rfl⟩

end Sys2Proof.Machine
end

section
/-! ## The CRC unit's operations (rules R101 to R104) -/

namespace Sys2Proof.Machine

variable {s : State}

/-- Another value in the CRC register, after `n` operations that were each answered OK. -/
def State.withCrcAfter (c : Word) (n : Nat) (s : State) : State :=
  { s with
    blk := { s.blk with crc := c }
    env := { s.env with answers := List.replicate n .ok ++ s.env.answers } }

theorem State.withCrcAfter_withCrcAfter (c d : Word) (n k : Nat) (s : State) :
    (s.withCrcAfter c n).withCrcAfter d k = s.withCrcAfter d (k + n) := by
  rw [State.withCrcAfter, State.withCrcAfter, State.withCrcAfter, List.replicate_add, List.append_assoc]

theorem State.ready_withCrcAfter (c : Word) (n : Nat) (hready : s.ready) : (s.withCrcAfter c n).ready := hready

theorem hostOp_of_ready {f : State → State} (hready : s.ready) : hostOp false f s = .next ((f s).answer .ok) :=
  hostOp_taken (by rw [State.ready_iff.1 hready]; rfl)

theorem hostOp_of_not_ready {own : Bool} {f : State → State} (h : ¬ s.ready) :
    hostOp own f s = .next (s.answer .rejected) :=
  hostOp_rejected (by rw [State.not_ready_iff.1 h]; rfl)

theorem exec_crcClr (hready : s.ready) : exec .crcClr s = .next (s.withCrcAfter 0#16 1) := hostOp_of_ready hready

theorem exec_crcBit (b : Bool) (hready : s.ready) :
    exec (.crcBit b) s = .next (s.withCrcAfter (crcShift s.blk.crc b) 1) :=
  hostOp_of_ready hready

theorem exec_crcByte (v : Byte) (hready : s.ready) :
    exec (.crcByte v) s = .next (s.withCrcAfter (crcByteStep s.blk.crc v) 1) :=
  hostOp_of_ready hready

/-- Operations that each take the register from `c` to `f c a` together fold `f` over their operands. -/
theorem execAll_map_of_crcStep {α : Type} {op : α → Instr} {f : Word → α → Word}
    (hstep : ∀ (a : α) (s : State), s.ready → exec (op a) s = .next (s.withCrcAfter (f s.blk.crc a) 1))
    (l : List α) (hready : s.ready) :
    execAll (l.map op) s = .next (s.withCrcAfter (l.foldl f s.blk.crc) l.length) := by
  induction l generalizing s with
  | nil => rfl
  | cons a l ih =>
    rw [List.map_cons, execAll, hstep a s hready, andThen_next, ih (State.ready_withCrcAfter _ _ hready),
      State.withCrcAfter_withCrcAfter]
    rfl

/-- Rule R103's expansion: the eight CRC.BIT operations. -/
theorem execAll_crcByteOps (v : Byte) (hready : s.ready) :
    execAll (crcByteOps v) s = .next (s.withCrcAfter (crcByteStep s.blk.crc v) 8) :=
  execAll_map_of_crcStep (fun b _ => exec_crcBit b) (bitsOf v) hready

/-- Rule R104's expansion: CRC.CLR and CRC.BYTE of each byte. -/
theorem execAll_crc16Ops (m : List Byte) (hready : s.ready) :
    execAll (crc16Ops m) s = .next (s.withCrcAfter (crc16 m) (m.length + 1)) := by
  rw [crc16Ops, execAll, exec_crcClr hready, andThen_next,
    execAll_map_of_crcStep (fun v _ => exec_crcByte v) m (State.ready_withCrcAfter _ _ hready),
    State.withCrcAfter_withCrcAfter]
  rfl

/-- The terms of the polynomial below `x^16`. -/
theorem poly_getLsbD {i : Nat} (hi : i < 16) : Config.poly.getLsbD i = decide (i = 0 ∨ i = 5 ∨ i = 12) := by
  decide +revert

/-- Rule R102's pseudocode on numbers, with the 17-bit `t`. -/
theorem crcShift_toNat_eq (c : Word) (b : Bool) :
    (crcShift c b).toNat =
      if 65536 ≤ c.toNat * 2 + b.toNat then ((c.toNat * 2 + b.toNat) % 65536) ^^^ 0x1021
      else c.toNat * 2 + b.toNat := by
  have ht : (c ++ BitVec.ofBool b).toNat = c.toNat * 2 + b.toNat := by
    rw [toNat_append_eq, BitVec.toNat_ofBool, pow_one]
  have htop : (c ++ BitVec.ofBool b).getLsbD 16 = decide (65536 ≤ c.toNat * 2 + b.toNat) := by
    rw [← ht]; exact (BitVec.msb_eq_getLsbD_last _).symm.trans (BitVec.msb_eq_decide _)
  simp only [crcShift, htop, decide_eq_true_eq]
  split
  · rw [BitVec.toNat_xor, BitVec.toNat_setWidth, ht]; rfl
  · rw [BitVec.toNat_setWidth, ht]; exact Nat.mod_eq_of_lt (by omega)

end Sys2Proof.Machine
end

section
/-! ## The CRC as a linear and reversible function (rules R110, R114) -/

namespace Sys2Proof.Machine

/-- Rules R103 and R104: bytes enter the register as their bits. -/
theorem crcFrom_eq_foldl_bits (c : Word) (s : List Byte) : crcFrom c s = (s.flatMap bitsOf).foldl crcShift c :=
  List.foldl_flatMap.symm

theorem crc16_append (s t : List Byte) : crc16 (s ++ t) = crcFrom (crc16 s) t := crcFrom_append _ s t

theorem fcs_eq_crcFrom (m : List Byte) : fcs m = crcFrom (crc16 m) [0x00#8, 0x00#8] := crc16_append m _

/-- Rule R114 (c). -/
theorem crc16_zero_cons (s : List Byte) : crc16 (0x00#8 :: s) = crc16 s := rfl

/-- Without room for a feedback the CRC of at most two bytes is the number they spell. -/
theorem crc16_toNat_of_length_le {s : List Byte} (h : s.length ≤ 2) : (crc16 s).toNat = benat s := by
  have hbits : (s.flatMap bitsOf).length = s.length * 8 := by simp [List.length_flatMap, bitsOf]
  have hroom : 2 ^ (s.length * 8) ≤ 2 ^ 16 := Nat.pow_le_pow_right (by decide) (by omega)
  rw [crc16, crcFrom_eq_foldl_bits, foldl_crcShift_toNat (by simpa [Config.crcInit, hbits] using hroom),
    List.foldl_flatMap, benat]
  simp only [foldl_bitsOf]
  rfl

/-- The CRC is linear over GF(2) on byte sequences of one length. -/
theorem crcFrom_zipWith_xor (c d : Word) (a b : List Byte) (hlen : a.length = b.length) :
    crcFrom (c ^^^ d) (List.zipWith (· ^^^ ·) a b) = crcFrom c a ^^^ crcFrom d b := by
  induction a generalizing b c d with
  | nil => rw [List.length_eq_zero_iff.1 hlen.symm]; rfl
  | cons v a ih =>
    obtain ⟨w, b, rfl⟩ := List.exists_cons_of_length_eq_add_one hlen.symm
    rw [List.zipWith_cons_cons, crcFrom_cons, crcFrom_cons, crcFrom_cons, crcByteStep_xor]
    exact ih _ _ b (Nat.succ.inj hlen)

/-- The step is reversible: bit 0 after it tells which top bit was fed back, the other bits the rest of the register. -/
theorem crcShift_left_injective (b : Bool) : Function.Injective (crcShift · b) := by
  intro c d h
  have hbit (i : Nat) : (crcShift c b).getLsbD i = (crcShift d b).getLsbD i := congrArg (BitVec.getLsbD · i) h
  have htop : c.getLsbD 15 = d.getLsbD 15 := by
    simpa [crcShift_getLsbD, poly_getLsbD, -BitVec.getLsbD_eq_getElem] using hbit 0
  apply BitVec.eq_of_getLsbD_eq
  intro i hi
  obtain rfl | hi : i = 15 ∨ i < 15 := by omega
  · exact htop
  · have hnext := hbit (i + 1)
    rw [crcShift_getLsbD _ _ (by omega), crcShift_getLsbD _ _ (by omega), htop] at hnext
    simpa [-BitVec.getLsbD_eq_getElem] using hnext

/-- A fold of injective steps is injective in its start value. -/
theorem foldl_injective {α β : Type} {f : β → α → β} (hf : ∀ a, Function.Injective (f · a)) (l : List α) :
    Function.Injective (l.foldl f ·) := by
  induction l with
  | nil => exact fun _ _ h => h
  | cons a l ih => exact fun _ _ h => hf a (ih h)

theorem crcFrom_left_injective (s : List Byte) : Function.Injective (crcFrom · s) :=
  foldl_injective (fun v => foldl_injective crcShift_left_injective (bitsOf v)) s

/-- Bytes that take a register to one value are equal: by linearity their difference is shifted into the cleared register
as 0, where it stands as itself. -/
theorem crcByteStep_right_injective (c : Word) : Function.Injective (crcByteStep c) := by
  intro v w h
  have hdiff := crcByteStep_xor c c v w
  rw [h, BitVec.xor_self, BitVec.xor_self] at hdiff
  have hnat := crcByteStep_toNat (c := 0#16) (by decide) (v ^^^ w)
  rw [hdiff] at hnat
  refine BitVec.xor_eq_zero_iff.1 (BitVec.eq_of_toNat_eq ?_)
  simpa using hnat.symm

/-- One changed byte changes the residue. -/
theorem crc16_ne_of_ne {b b' : Byte} (hne : b ≠ b') (u v : List Byte) : crc16 (u ++ b :: v) ≠ crc16 (u ++ b' :: v) := by
  rw [crc16_append, crc16_append]
  exact fun h => hne (crcByteStep_right_injective _ (crcFrom_left_injective v h))

theorem xor_one_shiftLeft_ne {j : Nat} (hj : j < 8) (b : Byte) : b ^^^ (1#8 <<< j) ≠ b := by
  intro h
  have hbit := congrArg (BitVec.getLsbD · j) h
  simp [hj] at hbit

theorem crcFrom_zeros_of_clear : crcFrom 0#16 [0x00#8, 0x00#8] = 0#16 := by decide +kernel

/-- Two zero bytes keep a residue zero and keep it non-zero. -/
theorem fcs_eq_zero_iff (s : List Byte) : fcs s = 0#16 ↔ crc16 s = 0#16 := by
  rw [fcs_eq_crcFrom]
  exact ⟨fun h => crcFrom_left_injective _ (h.trans crcFrom_zeros_of_clear.symm),
    fun h => by rw [h, crcFrom_zeros_of_clear]⟩

/-- Form X is rule R102's step without a message bit, and the bit's own feedback added. -/
theorem formXShift_eq (c : Word) (b : Bool) :
    formXShift c b = crcShift c false ^^^ (if b then Config.poly else 0#16) := by
  apply BitVec.eq_of_getLsbD_eq
  intro i hi
  rw [BitVec.getLsbD_xor, crcShift_getLsbD _ _ hi, formXShift]
  have hpoly : 0x1021#16 = Config.poly := rfl
  cases c.getLsbD 15 <;> cases b <;> simp [hi, hpoly, -BitVec.getLsbD_eq_getElem]

/-- Sixteen zero bits turn a message bit shifted in at the bottom into form X's feedback (rule R110). -/
theorem crcFrom_zeros_crcShift (c : Word) (b : Bool) :
    crcFrom (crcShift c b) [0x00#8, 0x00#8] = formXShift (crcFrom c [0x00#8, 0x00#8]) b := by
  have hsplit : crcShift c b = crcShift c false ^^^ crcShift 0#16 b := by
    rw [← crcShift_xor, BitVec.xor_zero, Bool.false_xor]
  have hcommute : crcFrom (crcShift c false) [0x00#8, 0x00#8] = crcShift (crcFrom c [0x00#8, 0x00#8]) false := rfl
  have hbit : crcFrom (crcShift 0#16 b) [0x00#8, 0x00#8] = if b then Config.poly else 0#16 := by
    cases b <;> decide +kernel
  calc crcFrom (crcShift c b) [0x00#8, 0x00#8]
      = crcFrom (crcShift c false) [0x00#8, 0x00#8] ^^^ crcFrom (crcShift 0#16 b) [0x00#8, 0x00#8] := by
        rw [hsplit]; exact crcFrom_zipWith_xor _ _ [0x00#8, 0x00#8] [0x00#8, 0x00#8] rfl
    _ = formXShift (crcFrom c [0x00#8, 0x00#8]) b := by rw [hcommute, hbit, formXShift_eq]

/-- Rule R110. -/
theorem fcs_eq_foldl_formXShift (m : List Byte) : fcs m = (m.flatMap bitsOf).foldl formXShift 0#16 := by
  have hhom := List.foldl_hom (l := m.flatMap bitsOf) (init := 0#16) (crcFrom · [0x00#8, 0x00#8])
    fun c b => (crcFrom_zeros_crcShift c b).symm
  rw [fcs_eq_crcFrom, crc16, crcFrom_eq_foldl_bits _ m, ← crcFrom_zeros_of_clear]
  exact hhom.symm

end Sys2Proof.Machine
end

section
/-! ## The CRC as a polynomial remainder (rule R105) -/

namespace Sys2Proof.Machine

open Polynomial

/-- A bit as a constant polynomial. -/
noncomputable def bitPoly (b : Bool) : (ZMod 2)[X] := if b then 1 else 0

theorem bitPoly_xor (a b : Bool) : bitPoly (a ^^ b) = bitPoly a + bitPoly b := by
  cases a <;> cases b <;> simp [bitPoly, CharTwo.add_self_eq_zero]

theorem bitPoly_and (a b : Bool) : bitPoly (a && b) = bitPoly a * bitPoly b := by
  cases a <;> simp [bitPoly]

theorem wordPoly_eq_sum (c : Word) : wordPoly c = ∑ i ∈ Finset.range 16, bitPoly (c.getLsbD i) * X ^ i := by
  simp [wordPoly, bitPoly]

theorem wordPoly_zero : wordPoly 0#16 = 0 := by simp [wordPoly]

theorem degree_wordPoly_lt (c : Word) : (wordPoly c).degree < 16 := by
  have hterm (i : Nat) : (if c.getLsbD i then X ^ i else 0 : (ZMod 2)[X]).degree ≤ i := by
    split
    · exact degree_X_pow_le i
    · simp
  refine (degree_sum_le _ _).trans_lt ((Finset.sup_lt_iff (WithBot.bot_lt_coe 16)).2 fun i hi => ?_)
  exact (hterm i).trans_lt (WithBot.coe_lt_coe.2 (Finset.mem_range.1 hi))

/-- `POLY` holds the terms of `P` below `x^16` (rule R6). -/
theorem crcPoly_eq : crcPoly = X ^ 16 + wordPoly Config.poly := by
  have hterms : ∑ i ∈ Finset.range 16, (if Config.poly.getLsbD i then X ^ i else 0 : (ZMod 2)[X])
      = 1 + X ^ 5 + X ^ 12 := by
    simp [Finset.sum_range_succ, Config.poly]
  rw [crcPoly, wordPoly, hterms]
  ring

theorem degree_crcPoly : crcPoly.degree = 16 := by
  rw [crcPoly]; compute_degree!

theorem monic_crcPoly : crcPoly.Monic := by
  rw [crcPoly]; monicity!

/-- The register moved up by one place, with the message bit below: `x` times the register, without its top bit. -/
theorem sum_shifted_bits (c : Word) (b : Bool) :
    ∑ i ∈ Finset.range 16, bitPoly (if i = 0 then b else c.getLsbD (i - 1)) * X ^ i
      = wordPoly c * X + bitPoly b - bitPoly (c.getLsbD 15) * X ^ 16 := by
  rw [Finset.sum_range_succ', wordPoly_eq_sum, Finset.sum_range_succ (n := 15), add_mul, Finset.sum_mul]
  simp only [Nat.add_one_ne_zero, if_false, if_true, Nat.add_sub_cancel, pow_succ, mul_assoc]
  ring

/-- Rule R105's step: multiply by `x`, add the bit, subtract `P` when the `x^16` term appeared. -/
theorem wordPoly_crcShift (c : Word) (b : Bool) :
    wordPoly (crcShift c b) = wordPoly c * X + bitPoly b - bitPoly (c.getLsbD 15) * crcPoly := by
  have hsum : wordPoly (crcShift c b)
      = ∑ i ∈ Finset.range 16, bitPoly (if i = 0 then b else c.getLsbD (i - 1)) * X ^ i
        + bitPoly (c.getLsbD 15) * wordPoly Config.poly := by
    rw [wordPoly_eq_sum, wordPoly_eq_sum, Finset.mul_sum, ← Finset.sum_add_distrib]
    refine Finset.sum_congr rfl fun i hi => ?_
    rw [crcShift_getLsbD _ _ (Finset.mem_range.1 hi), bitPoly_xor, bitPoly_and, add_mul, mul_assoc]
  rw [hsum, sum_shifted_bits, crcPoly_eq]
  linear_combination bitPoly (c.getLsbD 15) * wordPoly Config.poly * CharTwo.two_eq_zero (R := (ZMod 2)[X])

theorem bitsPoly_concat (w : List Bool) (b : Bool) : bitsPoly (w ++ [b]) = bitsPoly w * X + bitPoly b := by
  rw [bitsPoly, List.foldl_concat]; rfl

/-- Rule R105 before the reduction: what the register holds differs from `c(x) * x^k + w(x)` by a multiple of `P`. -/
theorem crcPoly_dvd_sub_wordPoly (c : Word) (w : List Bool) :
    crcPoly ∣ wordPoly c * X ^ w.length + bitsPoly w - wordPoly (w.foldl crcShift c) := by
  induction w using List.reverseRecOn with
  | nil => simp [bitsPoly]
  | append_singleton w b ih =>
    have hstep : wordPoly c * X ^ (w ++ [b]).length + bitsPoly (w ++ [b]) - wordPoly ((w ++ [b]).foldl crcShift c)
        = (wordPoly c * X ^ w.length + bitsPoly w - wordPoly (w.foldl crcShift c)) * X
          + bitPoly ((w.foldl crcShift c).getLsbD 15) * crcPoly := by
      rw [bitsPoly_concat, List.foldl_concat, wordPoly_crcShift, List.length_append, List.length_singleton]
      ring
    rw [hstep]
    exact dvd_add (ih.mul_right X) (dvd_mul_left crcPoly _)

/-- A word has a smaller degree than `P`, so the register is the remainder itself. -/
theorem wordPoly_foldl_crcShift (c : Word) (w : List Bool) :
    wordPoly (w.foldl crcShift c) = (wordPoly c * X ^ w.length + bitsPoly w) %ₘ crcPoly := by
  have hdegree : (wordPoly (w.foldl crcShift c)).degree < crcPoly.degree := by
    rw [degree_crcPoly]; exact degree_wordPoly_lt _
  rw [modByMonic_eq_of_dvd_sub monic_crcPoly (crcPoly_dvd_sub_wordPoly c w),
    (modByMonic_eq_self_iff monic_crcPoly).2 hdegree]

end Sys2Proof.Machine
end

section
/-! ## The statements of 40_crc.md -/

namespace Sys2Proof.Machine

/-- Settles O9: `exec_crcClr`, the rejection of a host operation, and code 0x1 (`commandWordReadsAsItsCode`). -/
theorem crcClrClearsTheRegister : Obligations.CrcClrClearsTheRegister := fun _ =>
  ⟨exec_crcClr, hostOp_of_not_ready, fun arg => congrArg Except.ok ((commandWordReadsAsItsCode 0x1#4 arg).1 rfl)⟩

/-- Settles O10: the step bit by bit (`crcShift_getLsbD`, at the polynomial's terms) and on numbers. -/
theorem crcBitShiftsOneBitIn : Obligations.CrcBitShiftsOneBitIn := by
  intro s b
  refine ⟨fun hready => ⟨_, exec_crcBit b hready, fun i hi => ?bits, crcShift_toNat_eq _ b⟩, hostOp_of_not_ready,
    fun arg => ?code⟩
  case bits =>
    rw [crcShift_getLsbD _ _ hi, poly_getLsbD hi]
    by_cases h0 : i = 0
    · simp [h0]
    · by_cases hterm : i = 5 ∨ i = 12 <;> simp [h0, hterm]
  case code =>
    obtain ⟨-, hcode, -⟩ := commandWordReadsAsItsCode 0x2#4 arg
    exact congrArg Except.ok (hcode rfl)

/-- Settles O11: both runs fold the step over the byte's bits (`exec_crcByte`, `execAll_crcByteOps`). -/
theorem crcByteIsEightCrcBits : Obligations.CrcByteIsEightCrcBits := by
  intro s v
  obtain ⟨-, -, hcode, -⟩ := commandWordReadsAsItsCode 0x3#4 v
  exact ⟨fun hready => ⟨_, _, exec_crcByte v hready, execAll_crcByteOps v hready, rfl⟩, hostOp_of_not_ready,
    congrArg Except.ok (hcode rfl)⟩

/-- Settles O12, by `execAll_crc16Ops`. -/
theorem crc16IsClearThenEveryByte : Obligations.Crc16IsClearThenEveryByte :=
  ⟨fun _ m hready => ⟨_, execAll_crc16Ops m hready, rfl, rfl, rfl, rfl⟩, fun _ => rfl, rfl⟩

/-- Settles O13: `wordPoly_foldl_crcShift`, and from the cleared register for the bits of `s`. -/
theorem crcIsThePolynomialRemainder : Obligations.CrcIsThePolynomialRemainder := by
  refine ⟨wordPoly_foldl_crcShift, fun s => ?_⟩
  rw [crc16, crcFrom_eq_foldl_bits, wordPoly_foldl_crcShift, Config.crcInit, wordPoly_zero, zero_mul, zero_add]

/-- Settles O14: `crc16_append_fcs`, and the rule's example evaluated. -/
theorem residueOfOwnCrcIsZero : Obligations.ResidueOfOwnCrcIsZero :=
  ⟨crc16_append_fcs, by decide +kernel, by decide +kernel⟩

/-- Settles O15: linearity for (d), and the step's reversibility for (e) and (h). -/
theorem crcProperties : Obligations.CrcProperties := by
  refine ⟨rfl, fun _ => crc16_toNat_of_length_le, fun s => ⟨crc16_zero_cons s, crc16_zero_cons _⟩,
    crcFrom_zipWith_xor 0#16 0#16, fcs_eq_zero_iff, fun u hu => ?zeroByte, by decide +kernel,
    fun u v b j hj hu hu' => ?changedBit⟩
  case zeroByte => rw [crc16_append, hu]; rfl
  case changedBit => exact crc16_ne_of_ne (xor_one_shiftLeft_ne hj b) u v (hu'.trans hu.symm)

/-- Settles O16. -/
theorem fcsEqualsFormX : Obligations.FcsEqualsFormX :=
  ⟨fcs_eq_foldl_formXShift, fun u => by rw [← fcs_eq_foldl_formXShift, fcs_eq_zero_iff]⟩

end Sys2Proof.Machine
end

section
/-! ## The frame encoder (rules R124 to R133)

What stuffing leaves of the Escape Table gives a frame its shape; FRAME is its pushes and then the ENC.SEND. -/

namespace Sys2Proof.Machine

variable {s : State} {b p : Byte} {m : List Byte}

/-- A byte of the Escape Table that is no marker stands nowhere in stuffed bytes (rule R131). -/
theorem ne_of_mem_stuff {c : Byte} {u : List Byte} (hc : inEscSet c = true) (hmark : c ≠ Config.escMark)
    (h : b ∈ stuff u) : b ≠ c := by
  rintro rfl
  exact (mem_stuff h).elim hmark (by simp [hc])

/-- The second byte of a pair is one of five (rule R73). -/
theorem complement_mem_secondBytes (h : inEscSet b = true) :
    b ^^^ Config.escXor ∈ [0xF9#8, 0xF2#8, 0xE4#8, 0xBF#8, 0x7F#8] := by
  obtain rfl | rfl | rfl | rfl | rfl := (inEscSet_iff b).1 h <;> decide

/-- In stuffed bytes the marker is the first byte of a pair wherever it stands (rule R131). -/
theorem stuff_marker_precedes_secondByte (u : List Byte) {i : Nat} (h : (stuff u)[i]? = some Config.escMark) :
    ∃ c, (stuff u)[i + 1]? = some c ∧ c ∈ [0xF9#8, 0xF2#8, 0xE4#8, 0xBF#8, 0x7F#8] := by
  induction u generalizing i with
  | nil => simp at h
  | cons b u ih =>
    rw [stuff_cons] at h ⊢
    cases hb : inEscSet b with
    | false =>
      rw [esc_of_not_inEscSet hb, List.singleton_append] at h ⊢
      cases i with
      | zero => cases h; cases hb
      | succ i => exact ih h
    | true =>
      have hsecond := complement_mem_secondBytes hb
      rw [esc_of_inEscSet hb, escPair, List.cons_append, List.singleton_append] at h ⊢
      match i with
      | 0 => exact ⟨_, rfl, hsecond⟩
      | 1 =>
        obtain hmark : b ^^^ Config.escXor = Config.escMark := Option.some.inj h
        rw [hmark] at hsecond
        exact absurd hsecond (by decide)
      | i + 2 => exact ih h

/-- Each byte of the Escape Table costs one byte more (rule R131). -/
theorem stuff_length (u : List Byte) : (stuff u).length = u.length + u.countP inEscSet := by
  induction u with
  | nil => rfl
  | cons b u ih =>
    rw [stuff_cons, List.length_append, ih]
    cases hb : inEscSet b with
    | false => rw [esc_of_not_inEscSet hb]; simp [hb]; omega
    | true => rw [esc_of_inEscSet hb]; simp [hb, escPair]; omega

theorem encodeFrame_length (p : Byte) (m : List Byte) :
    (encodeFrame p m).length = 4 + m.length + (m ++ be16 (fcs m)).countP inEscSet := by
  rw [encodeFrame_eq_cons, List.length_cons, List.length_append, stuff_length, List.length_append, be16_length,
    List.length_singleton]
  omega

/-- The terminator stands at a frame's end and, but for the prefix byte, nowhere else. -/
theorem count_term_encodeFrame (hp : p ≠ Config.term) (m : List Byte) : (encodeFrame p m).count Config.term = 1 := by
  rw [encodeFrame_eq_cons, List.count_cons_of_ne hp, List.count_append,
    List.count_eq_zero_of_not_mem (term_not_mem_stuff _)]
  rfl

/-- Settles O19: the body is stuffed bytes, and `unescape_encodeFrame` reads them back. -/
theorem frameShape : Obligations.FrameShape := by
  intro p m
  refine ⟨stuff (m ++ be16 (fcs m)), rfl, fun b hb => ?noEscapeByte, fun i => stuff_marker_precedes_secondByte _,
    fun hp => count_term_encodeFrame hp m, encodeFrame_length p m, ?stripped, ?noDiagnostic⟩
  case noEscapeByte =>
    have hne {c : Byte} := ne_of_mem_stuff (c := c) (h := hb)
    exact ⟨hne rfl (by decide), hne rfl (by decide), hne rfl (by decide), hne rfl (by decide)⟩
  case stripped => rw [unescape_encodeFrame, stripCrc_append_be16]
  case noDiagnostic => rw [unescape_encodeFrame]

theorem execEncPush_of_full (v : Byte) (hfull : s.params.txBufMax = some s.blk.txBuf.length) :
    execEncPush v s = .next (s.answer .rejected) :=
  hostOp_rejected (by rw [full_eq_true.2 hfull, Bool.or_true])

/-- Settles O17: a push with room, the two rejections, and code 0x4 (`commandWordReadsAsItsCode`). -/
theorem encPushStagesOneByte : Obligations.EncPushStagesOneByte := by
  intro s v
  obtain ⟨-, -, -, hcode, -⟩ := commandWordReadsAsItsCode 0x4#4 v
  exact ⟨execEncPush_of_room v, fun h => h.elim hostOp_of_not_ready (execEncPush_of_full v),
    congrArg Except.ok (hcode rfl)⟩

/-- Rules R127 and R128: whatever the transport answers, some prefix of the frame reaches the line. -/
theorem Env.onLine_eq_take (e : Env) (frame : List Byte) : ∃ k, e.onLine frame = frame.take k := by
  cases h : e.nextTxAnswer with
  | ok => exact ⟨frame.length, by rw [Env.onLine_ok h, List.take_length]⟩
  | fail => exact Env.onLine_fail h

/-- A write of a block without a fault: `TX_FAIL` says the transport's answer, and the frame is rule R123's. -/
theorem sendFrame_of_faultless (p : Byte) (hfail : s.blk.txFail = false) :
    sendFrame p s =
      { s with
        blk :=
          { s.blk with crc := fcs s.blk.txBuf, txBuf := [], txFail := decide (s.env.nextTxAnswer = .fail) }
        env := s.env.txWrite (encodeFrame p s.blk.txBuf) } := by
  have hblk := sendFrame_blk p s
  rw [hfail, Bool.false_or] at hblk
  exact congrArg (fun k => { s with blk := k, env := s.env.txWrite (encodeFrame p s.blk.txBuf) }) hblk

/-- Settles O18: a ready block writes the frame (`sendFrame_of_faultless`), another rejects, and the code is 0x5. -/
theorem encSendWritesTheFrame : Obligations.EncSendWritesTheFrame := by
  intro s p
  obtain ⟨-, -, -, -, hcode, -⟩ := commandWordReadsAsItsCode 0x5#4 p
  refine ⟨fun hready => ?taken, hostOp_of_not_ready, congrArg Except.ok (hcode rfl)⟩
  case taken =>
    obtain ⟨hfail, -⟩ := Block.faulted_eq_false.1 hready.1
    have hsend : exec (.encSend p) s = .next ((sendFrame p s).answer .ok) := hostOp_of_ready hready
    rw [sendFrame_of_faultless p hfail] at hsend
    exact ⟨_, _, rfl, hsend, Env.onLine_ok, Env.onLine_eq_take _ _⟩

/-- FRAME with room for its payload is ENC.SEND after the payload is staged (log entry 12). -/
theorem exec_frame_of_room (p : Byte) (hready : s.ready)
    (hroom : ∀ n, s.params.txBufMax = some n → s.blk.txBuf.length + m.length ≤ n) :
    exec (.frame p m) s = exec (.encSend p) (s.staged m) :=
  congrArg (andThen · (execEncSend p)) (pushAll_of_room hready hroom)

/-- Settles O21: with nothing else staged, ENC.SEND (`encSendWritesTheFrame`) writes the frame of the payload. -/
theorem frameRowWritesEncode : Obligations.FrameRowWritesEncode := by
  intro s p m hready hempty hroom
  have hstaged : (s.staged m).blk.txBuf = m := by rw [State.staged, hempty]; rfl
  have hframe : exec (.frame p m) s = exec (.encSend p) (s.staged m) :=
    exec_frame_of_room p hready (by simpa [hempty] using hroom)
  obtain ⟨a, onLine, ha, hsend, hline⟩ := (encSendWritesTheFrame (s.staged m) p).1 hready
  rw [hstaged] at hsend hline
  exact ⟨a, onLine, ha, hframe.trans hsend, hline⟩

end Sys2Proof.Machine
end

section
/-! ## One received symbol (rules R142 to R146, R152, R153)

What each of the four symbols does to a block that listens, with room in the buffer and without, and what is left of any
symbol by a block that does not. -/

namespace Sys2Proof.Machine

variable {s : State} {b : Byte} {x : Symbol}

theorem crcErrOf_eq_decide (residue : Word) : crcErrOf residue = decide (residue ≠ 0#16) := by
  rw [crcErrOf, bne, beq_eq_decide, ← decide_not]

/-- A listening block takes the symbol, whose effect on this block is that of `g`. -/
theorem rxOp_of_listening {f : Params → Block → Block} {g : Block → Block} (hlisten : s.listening)
    (heffect : f s.params s.blk = g s.blk) : rxOp x f s = .next (s.onBlock g) := by
  rw [rxOp_pulled (State.listening_iff.1 hlisten), State.onBlock, State.onBlock, heffect]

theorem exec_rxResync (hlisten : s.listening) : exec .rxResync s = .next (s.onBlock Block.rxResync) :=
  rxOp_of_listening (f := fun _ => Block.rxResync) hlisten rfl

theorem exec_rxTimeout (hlisten : s.listening) : exec .rxTimeout s = .next (s.onBlock Block.rxTimeout) :=
  rxOp_of_listening (f := fun _ => Block.rxTimeout) hlisten rfl

theorem exec_rxData_of_room (b : Byte) (hlisten : s.listening) (hroom : s.params.rxBufMax ≠ some s.blk.rxBuf.length) :
    exec (.rxData b) s = .next (s.onBlock (Block.withRxBuf (s.blk.rxBuf ++ [b]))) :=
  rxOp_of_listening hlisten (Block.rxData_of_room (full_eq_false.2 hroom))

theorem exec_rxData_of_full (b : Byte) (hlisten : s.listening) (hfull : s.params.rxBufMax = some s.blk.rxBuf.length) :
    exec (.rxData b) s = .next (s.onBlock Block.overflow) :=
  rxOp_of_listening hlisten (Block.rxData_of_full (full_eq_true.2 hfull))

theorem exec_rxTerm_of_room (hlisten : s.listening) (hroom : s.params.rxBufMax ≠ some s.blk.rxBuf.length) :
    exec .rxTerm s = .next (s.onBlock Block.endFrame) :=
  rxOp_of_listening hlisten (Block.rxTerm_of_room (full_eq_false.2 hroom))

theorem exec_rxTerm_of_full (hlisten : s.listening) (hfull : s.params.rxBufMax = some s.blk.rxBuf.length) :
    exec .rxTerm s = .next (s.onBlock Block.overflow) :=
  rxOp_of_listening hlisten (Block.rxTerm_of_full (full_eq_true.2 hfull))

/-- Every received byte but 0x40 overflows a full buffer, the terminator too (rule R153). -/
theorem exec_decodeRx_of_full (hlisten : s.listening) (hresync : b ≠ Config.resync)
    (hfull : s.params.rxBufMax = some s.blk.rxBuf.length) :
    exec (decodeRx b) s = .next (s.onBlock Block.overflow) := by
  by_cases hterm : b = Config.term
  · rw [hterm]; exact exec_rxTerm_of_full hlisten hfull
  · rw [decodeRx_of_ne hresync hterm]; exact exec_rxData_of_full b hlisten hfull

/-- Rule R142: what comes to a block that does not listen stays with the transport (log entry 5). -/
theorem rxSymbol_of_not_listening (x : Symbol) (hdeaf : ¬ s.listening) :
    rxSymbol x s = .next (s.keepSymbols [x]) := by
  have hdeaf := State.not_listening_iff.1 hdeaf
  cases x with
  | timeout => exact rxOp_kept (f := fun _ => Block.rxTimeout) hdeaf
  | byte b =>
    rw [rxSymbol, rxByte]
    split
    case isTrue hresync => rw [beq_iff_eq.1 hresync]; exact rxOp_kept (f := fun _ => Block.rxResync) hdeaf
    case isFalse =>
      split
      case isTrue hterm => rw [beq_iff_eq.1 hterm]; exact rxOp_kept hdeaf
      case isFalse => exact rxOp_kept hdeaf

end Sys2Proof.Machine
end

section
/-! ## The un-escape loop of rule R147, and its dangling marker (rule R149) -/

namespace Sys2Proof.Machine

variable {buf : List Byte} {i : Nat}

/-- The loop ends when nothing is left but the terminator. -/
theorem unescapeLoop_of_last (hlast : (buf.drop i).length ≤ 1) (fuel : Nat) (u : List Byte) (me : Bool) :
    unescapeLoop buf fuel i u me = (u, me) := by
  rw [List.length_drop] at hlast
  cases fuel with
  | zero => rfl
  | succ fuel => rw [unescapeLoop, if_neg (by omega)]

theorem byteAt_of_drop {b : Byte} {l : List Byte} (h : buf.drop i = b :: l) : byteAt buf i = b := by
  rw [byteAt, List.getD_eq_getElem?_getD, ← List.head?_drop, h]
  rfl

theorem drop_succ_of_drop {b : Byte} {l : List Byte} (h : buf.drop i = b :: l) : buf.drop (i + 1) = l := by
  rw [← List.tail_drop, h, List.tail_cons]

theorem lt_length_sub_one_of_drop {b c : Byte} {l : List Byte} (h : buf.drop i = b :: c :: l) : i < buf.length - 1 := by
  have := congrArg List.length h
  rw [List.length_drop, List.length_cons, List.length_cons] at this
  omega

/-- A round of the loop that stands on a marker takes the byte after it. -/
theorem unescapeLoop_marker {c : Byte} {rest : List Byte} (hdrop : buf.drop i = 0x1B#8 :: c :: rest) (fuel : Nat)
    (u : List Byte) (me : Bool) :
    unescapeLoop buf (fuel + 1) i u me =
      unescapeLoop buf fuel (i + 2) (u ++ [c ^^^ 0xFF#8]) (me || !inEscSet (c ^^^ 0xFF#8)) := by
  rw [unescapeLoop, if_pos (lt_length_sub_one_of_drop hdrop), byteAt_of_drop hdrop,
    byteAt_of_drop (drop_succ_of_drop hdrop)]
  rfl

/-- A round of the loop that stands on another byte copies it. -/
theorem unescapeLoop_literal {b c : Byte} {rest : List Byte} (hdrop : buf.drop i = b :: c :: rest) (hb : b ≠ 0x1B#8)
    (fuel : Nat) (u : List Byte) (me : Bool) :
    unescapeLoop buf (fuel + 1) i u me = unescapeLoop buf fuel (i + 1) (u ++ [b]) me := by
  rw [unescapeLoop, if_pos (lt_length_sub_one_of_drop hdrop), byteAt_of_drop hdrop, if_neg (by simpa using hb)]

/-- The loop at index `i` goes on with the scan of what stands from there, given a round for each of these bytes. -/
theorem unescapeLoop_eq_scan {l : List Byte} (hdrop : buf.drop i = l) {fuel : Nat} (hfuel : l.length ≤ fuel)
    (u : List Byte) (me : Bool) : unescapeLoop buf fuel i u me = (u ++ (scan l).1, me || (scan l).2) := by
  induction l using scan.induct generalizing i fuel u me with
  | case1 => rw [unescapeLoop_of_last (by simp [hdrop]), scan, List.append_nil, Bool.or_false]
  | case2 => rw [unescapeLoop_of_last (by simp [hdrop]), scan, List.append_nil, Bool.or_false]
  | case3 b c rest hmark ih =>
    obtain ⟨fuel, rfl⟩ := Nat.exists_eq_add_one.2 ((Nat.succ_pos _).trans_le hfuel)
    obtain rfl : b = 0x1B#8 := beq_iff_eq.1 hmark
    have hrest : rest.length ≤ fuel := by simp only [List.length_cons] at hfuel; omega
    rw [unescapeLoop_marker hdrop, ih (drop_succ_of_drop (drop_succ_of_drop hdrop)) hrest, scan_marker,
      List.append_assoc, Bool.or_assoc]
    rfl
  | case4 b c rest hmark ih =>
    obtain ⟨fuel, rfl⟩ := Nat.exists_eq_add_one.2 ((Nat.succ_pos _).trans_le hfuel)
    have hb : b ≠ 0x1B#8 := fun h => hmark (beq_iff_eq.2 h)
    rw [unescapeLoop_literal hdrop hb, ih (drop_succ_of_drop hdrop) (Nat.le_of_succ_le_succ hfuel), scan_literal _ hb,
      List.append_assoc]
    rfl

/-- Settles O29: the loop scans the buffer from its second byte on. -/
theorem unescapeIsTheLoop : Obligations.UnescapeIsTheLoop := by
  intro buf fuel hfuel
  rw [unescapeLoop_eq_scan rfl (List.length_drop.trans_le ((Nat.sub_le _ _).trans hfuel))]
  rfl

/-- The marker before the terminator takes it as a pair's second byte: 0x0D XOR 0xFF, outside the Escape Table. -/
theorem unescape_dangling (p : Byte) (m : List Byte) :
    unescape ([p] ++ stuff m ++ [0x1B#8, 0x0D#8]) = (m ++ [0xF2#8], true) := by
  rw [List.append_assoc, List.singleton_append, unescape, List.drop_one, List.tail_cons,
    scan_stuff_append _ (List.cons_ne_nil _ _), scan_marker]
  rfl

end Sys2Proof.Machine
end

section
/-! ## The whole receive of rule R160 -/

namespace Sys2Proof.Machine

variable {s : State}

/-- The block whose receive has ended, or stands open, in this way (rule R160). -/
def Block.ended (r : Received) (b : Block) : Block :=
  match r with
  | .frame pl me residue =>
    { b with
      crc := residue, missingEsc := me, crcErr := crcErrOf residue, pl := pl, decResult := .frame, rxBuf := [],
      decState := .idle }
  | .noFrame => b.rxTimeout
  | .overflow => b.overflow
  | .pending buf => b.withRxBuf buf

/-- How a receive ends says what is in the buffer, whatever was in it. -/
theorem Block.ended_withRxBuf (r : Received) (buf : List Byte) (b : Block) : (b.withRxBuf buf).ended r = b.ended r := by
  cases r <;> rfl

/-- What the whole receive of rule R160 leaves: the block as it ends, and the symbols it does not consume. -/
def State.endedBy (r : Received × List Symbol) (s : State) : State := (s.onBlock (Block.ended r.1)).keepSymbols r.2

theorem State.endedBy_withRxBuf (r : Received × List Symbol) (buf : List Byte) (s : State) :
    (s.onBlock (Block.withRxBuf buf)).endedBy r = s.endedBy r := by
  rw [State.endedBy, State.endedBy, State.onBlock, State.onBlock, State.onBlock, Block.ended_withRxBuf]

theorem receive_of_not_listening (xs : List Symbol) (hdeaf : ¬ s.listening) :
    receive xs s = .next (s.keepSymbols xs) := by
  cases xs with
  | nil => rfl
  | cons x xs => exact receive_kept (State.not_listening_iff.1 hdeaf)

theorem receive_cons {x : Symbol} {t : State} (xs : List Symbol) (hlisten : s.listening) (hx : rxSymbol x s = .next t) :
    receive (x :: xs) s = receive xs t := by
  rw [receive_pulled (State.listening_iff.1 hlisten), hx, andThen_next]

/-- A symbol that ends the receive leaves the rest with the transport (rule R161). -/
theorem receive_cons_of_idle {x : Symbol} {t : State} (xs : List Symbol) (hlisten : s.listening)
    (hx : rxSymbol x s = .next t) (hidle : t.blk.decState = .idle) :
    receive (x :: xs) s = .next (t.keepSymbols xs) := by
  rw [receive_cons xs hlisten hx]
  exact receive_of_not_listening xs fun h => by simp [State.listening, hidle] at h

/-- Rule R160, for every buffer: taking the symbols one by one is the whole-receive function. -/
theorem receive_eq_decodeSyms (xs : List Symbol) (hlisten : s.listening) :
    receive xs s = .next (s.endedBy (decodeSyms s.params.rxBufMax s.blk.rxBuf xs)) := by
  obtain ⟨buf, hbuf⟩ : ∃ buf, s.blk.rxBuf = buf := ⟨_, rfl⟩
  obtain ⟨cap, hcap⟩ : ∃ cap, s.params.rxBufMax = cap := ⟨_, rfl⟩
  rw [hbuf, hcap]
  induction buf, xs using decodeSyms.induct (cap := cap) generalizing s with
  | case1 buf => subst hbuf; rfl
  | case2 buf rest => exact receive_cons_of_idle rest hlisten (exec_rxTimeout hlisten) rfl
  | case3 buf rest ih =>
    have hx : rxSymbol (.byte 0x40#8) s = .next (s.onBlock (Block.withRxBuf [0x40#8])) := exec_rxResync hlisten
    rw [receive_cons rest hlisten hx, decodeSyms, if_pos rfl,
      ih (s := s.onBlock (Block.withRxBuf [0x40#8])) hlisten rfl hcap, State.endedBy_withRxBuf]
  | case4 buf b rest hresync hfull =>
    subst hbuf
    have hx := (rxByte_eq_exec b s).trans (exec_decodeRx_of_full hlisten hresync (hcap.trans hfull))
    rw [decodeSyms, if_neg hresync, if_pos hfull]
    exact receive_cons_of_idle rest hlisten hx rfl
  | case5 buf rest hroom hresync =>
    subst hbuf
    rw [decodeSyms, if_neg hresync, if_neg hroom, if_pos rfl]
    exact receive_cons_of_idle rest hlisten (exec_rxTerm_of_room hlisten (hcap ▸ hroom)) rfl
  | case6 buf b rest hresync hroom hterm ih =>
    subst hbuf
    have hx : rxSymbol (.byte b) s = .next (s.onBlock (Block.withRxBuf (s.blk.rxBuf ++ [b]))) := by
      rw [rxSymbol, rxByte_eq_exec, decodeRx_of_ne hresync hterm, exec_rxData_of_room b hlisten (hcap ▸ hroom)]
    rw [receive_cons rest hlisten hx, decodeSyms, if_neg hresync, if_neg hroom, if_neg hterm,
      ih (s := s.onBlock (Block.withRxBuf (s.blk.rxBuf ++ [b]))) hlisten rfl hcap, State.endedBy_withRxBuf]

end Sys2Proof.Machine
end

section
/-! ## The statements of 42_decoder.md, and a step with nothing to run -/

namespace Sys2Proof.Machine

/-- Settles O32, by `decFrame_encodeFrame`: the bytes of the frame are appended up to its one terminator, and the residue
of the payload with its own CRC is zero. -/
theorem roundTripGivesThePayloadBack : Obligations.RoundTripGivesThePayloadBack :=
  fun _ _ _ hready hp hroom => decFrame_encodeFrame hready hp hroom

/-- Settles O31: `unescape_dangling`, which is also what the terminator does in the rule's example. -/
theorem danglingEscapeGivesF2 : Obligations.DanglingEscapeGivesF2 := by
  refine ⟨unescape_dangling, fun s hlisten hcap hbuf => ?_⟩
  have hunescape : unescape (s.blk.rxBuf ++ [Config.term]) = ([0x3F#8, 0x10#8, 0xF2#8], true) := by
    rw [hbuf]; exact unescape_dangling 0x40#8 [0x3F#8, 0x10#8]
  have hresidue : crc16 [0x3F#8, 0x10#8, 0xF2#8] = 0xD74E#16 := by decide +kernel
  rw [exec_rxTerm_of_room hlisten (by simp [hcap]), State.onBlock, Block.endFrame, hunescape, hresidue]
  rfl

/-- Settles O33: after DEC.ARM the buffer is empty, and `receive_eq_decodeSyms` gives the state field by field. -/
theorem receiveIsTheDecodeFunction : Obligations.ReceiveIsTheDecodeFunction := by
  intro s xs hready
  obtain ⟨-, hovf⟩ := Block.faulted_eq_false.1 hready.1
  have hrun : decFrame xs s = .next (s.armed.endedBy (decodeSyms s.params.rxBufMax [] xs)) :=
    (decFrame_of_ready xs hready).trans (receive_eq_decodeSyms xs (State.listening_armed hready))
  generalize decodeSyms s.params.rxBufMax [] xs = result at hrun ⊢
  obtain ⟨r, unconsumed⟩ := result
  refine ⟨_, hrun, rfl, ?_⟩
  cases r with
  | frame pl me residue => exact ⟨rfl, rfl, rfl, rfl, rfl, crcErrOf_eq_decide residue, rfl, hovf⟩
  | noFrame => exact ⟨rfl, rfl, rfl, rfl, rfl, hovf⟩
  | overflow => exact ⟨rfl, rfl, rfl, rfl, rfl⟩
  | pending buf => exact ⟨rfl, rfl, rfl, rfl⟩

/-- With no turn listed the transport moves exactly when the block listens (rule R211, log entry 2). -/
theorem State.turn_of_no_turns {s : State} (hturns : s.env.turns = []) :
    s.turn = if s.blk.pulling then .transport else .host := by
  rw [State.turn, hturns]

/-- Settles O5: `State.turn_of_no_turns`, and what `fetch` answers in each of the four cases. -/
theorem stepWithNothingToRun : Obligations.StepWithNothingToRun := by
  intro s
  refine ⟨fun hturns hlisten => ?listens, fun hturns hdeaf => ?deaf,
    fun hturn hops => step_of_fetch_idle (fetch_host_idle hturn hops),
    fun hturn hdeaf => step_of_fetch_idle (fetch_line_idle hturn hdeaf),
    fun hturn hlisten hsyms => step_of_fetch_silent (fetch_line_silent hturn hlisten hsyms),
    fun _ _ _ hturn hops hdec => step_of_fetch_error (fetch_host hturn hops) hdec⟩
  case listens => rw [State.turn_of_no_turns hturns, if_pos (State.listening_iff.1 hlisten)]
  case deaf => rw [State.turn_of_no_turns hturns, State.not_listening_iff.1 hdeaf]; rfl

/-- Settles O23: a host operation taken or rejected, and code 0x6 (`commandWordReadsAsItsCode`). -/
theorem decArmOpensTheReceive : Obligations.DecArmOpensTheReceive := by
  intro s
  refine ⟨hostOp_of_ready, hostOp_of_not_ready, fun arg => ?_⟩
  obtain ⟨-, -, -, -, -, hcode, -⟩ := commandWordReadsAsItsCode 0x6#4 arg
  exact congrArg Except.ok (hcode rfl)

/-- Settles O24: the restart asks for no room. -/
theorem resyncRestartsTheBuffer : Obligations.ResyncRestartsTheBuffer := ⟨rfl, fun _ => exec_rxResync⟩

/-- Settles O25: the byte with room and without, and its class (`decodeRx_of_ne`). -/
theorem dataByteIsAppendedOrOverflows : Obligations.DataByteIsAppendedOrOverflows := fun _ b hlisten =>
  ⟨exec_rxData_of_room b hlisten, exec_rxData_of_full b hlisten,
    fun hresync hterm => congrArg Except.ok (decodeRx_of_ne hresync hterm)⟩

/-- Settles O26: `Block.endFrame` with room, an overflow without. -/
theorem termByteEndsTheFrame : Obligations.TermByteEndsTheFrame := by
  refine ⟨rfl, fun s hlisten => ⟨fun hroom => ⟨_, _, rfl, ?_⟩, exec_rxTerm_of_full hlisten⟩⟩
  rw [exec_rxTerm_of_room hlisten hroom, ← crcErrOf_eq_decide]
  rfl

/-- Settles O27: the timeout asks for nothing of the buffer. -/
theorem timeoutEndsWithoutAFrame : Obligations.TimeoutEndsWithoutAFrame := ⟨rfl, fun _ => exec_rxTimeout⟩

/-- Settles O28: the decoded symbol is run as itself, and `rxSymbol_of_not_listening` (log entry 5). -/
theorem unpulledSymbolStaysWithTheTransport : Obligations.UnpulledSymbolStaysWithTheTransport :=
  fun s x _ hdeaf hdec => (exec_of_decodeLine hdec s).trans (rxSymbol_of_not_listening x hdeaf)

end Sys2Proof.Machine
end

section
/-! ## The tests of the unpacker and the fields it reports (rules R172 to R182) -/

namespace Sys2Proof.Machine

variable {p : List Byte}

/-- Rule R85: the header is `3F 10`. -/
theorem goodHeader_iff : goodHeader p = true ↔ byteAt p 0 = 0x3F#8 ∧ byteAt p 1 = 0x10#8 := by
  rw [goodHeader, Bool.and_eq_true, beq_iff_eq, beq_iff_eq]
  rfl

/-- A byte past the end reads 0, so a good header is two bytes that are there. -/
theorem two_le_length_of_goodHeader (hgood : goodHeader p = true) : 2 ≤ p.length := by
  obtain ⟨-, h1⟩ := goodHeader_iff.1 hgood
  by_contra hshort
  have hzero : byteAt p 1 = 0#8 := List.getD_eq_default _ _ (by omega)
  rw [hzero] at h1
  exact absurd h1 (by decide)

theorem unpack_frame_of_length_lt_two (hn : p.length < 2) : unpack .frame p = (.malformed, .zero) := by
  rw [unpack, if_neg DecResult.noConfusion, if_pos hn]

theorem unpack_frame_of_badHeader (hn : 2 ≤ p.length) (hbad : goodHeader p = false) :
    unpack .frame p = (.badHeader, .zero) := by
  rw [unpack, if_neg DecResult.noConfusion, if_neg hn.not_gt, hbad, if_pos Bool.not_false]

/-- The tests that remain of a payload with a good header are on its length (rule R172). -/
theorem unpack_frame_of_goodHeader (hgood : goodHeader p = true) :
    unpack .frame p =
      if p.length = 2 then (.emptyReply, .zero)
      else if p.length < 7 then (.malformed, .zero)
      else if p.length < 7 + (byteAt p 5).toNat then (.malformed, .zero)
      else (.value, fieldsOf p) := by
  rw [unpack, if_neg DecResult.noConfusion, if_neg (two_le_length_of_goodHeader hgood).not_gt, hgood,
    if_neg (by decide)]

theorem unpack_frame_of_header_only (hgood : goodHeader p = true) (hn : p.length = 2) :
    unpack .frame p = (.emptyReply, .zero) := by
  rw [unpack_frame_of_goodHeader hgood, if_pos hn]

/-- Too short for the seven bytes before the mantissa. -/
theorem unpack_frame_of_no_fields (hgood : goodHeader p = true) (hmore : 2 < p.length) (hn : p.length < 7) :
    unpack .frame p = (.malformed, .zero) := by
  rw [unpack_frame_of_goodHeader hgood, if_neg hmore.ne', if_pos hn]

/-- Too short for the mantissa the length byte announces. -/
theorem unpack_frame_of_short_mantissa (hgood : goodHeader p = true) (hmore : 7 ≤ p.length)
    (hn : p.length < 7 + (byteAt p 5).toNat) : unpack .frame p = (.malformed, .zero) := by
  rw [unpack_frame_of_goodHeader hgood, if_neg (by omega), if_neg hmore.not_gt, if_pos hn]

theorem unpack_frame_of_whole_mantissa (hgood : goodHeader p = true) (hn : 7 + (byteAt p 5).toNat ≤ p.length) :
    unpack .frame p = (.value, fieldsOf p) := by
  rw [unpack_frame_of_goodHeader hgood, if_neg (by omega), if_neg (by omega), if_neg hn.not_gt]

/-- Rule R178: sign and magnitude of the exponent. -/
theorem expOf_eq (c : Byte) :
    expOf c = if c.getLsbD 6 then -((c.toNat % 64 : Nat) : Int) else ((c.toNat % 64 : Nat) : Int) := by
  have hmagnitude : expMagnitude c = c.toNat % 64 := by simp [expMagnitude]
  rw [expOf, hmagnitude, expNegative]

/-- A byte sequence is a number of as many digits to the base 256 (rule R14). -/
theorem benat_lt (l : List Byte) : benat l < 256 ^ l.length := by
  induction l with
  | nil => exact Nat.one_pos
  | cons b l ih =>
    calc benat (b :: l)
        = b.toNat * 256 ^ l.length + benat l := benat_cons b l
      _ < (b.toNat + 1) * 256 ^ l.length := by rw [Nat.succ_mul]; omega
      _ ≤ 256 * 256 ^ l.length := Nat.mul_le_mul_right _ b.isLt
      _ = 256 ^ (l.length + 1) := (Nat.pow_succ' ..).symm

theorem fieldsOf_mant_lt (h : 7 + (byteAt p 5).toNat ≤ p.length) : (fieldsOf p).mant < 256 ^ (byteAt p 5).toNat := by
  have hlen : (slice p 7 (7 + (byteAt p 5).toNat)).length = (byteAt p 5).toNat := by rw [slice_length h]; omega
  exact hlen ▸ benat_lt (slice p 7 (7 + (byteAt p 5).toNat))

/-- The register id is 16 bits wide, so no part of its two bytes is lost (rule R177). -/
theorem fieldsOf_regEcho_toNat (p : List Byte) :
    (fieldsOf p).regEcho.toNat = (byteAt p 2).toNat * 256 + (byteAt p 3).toNat := by
  have hhigh := (byteAt p 2).isLt
  have hlow := (byteAt p 3).isLt
  rw [fieldsOf, BitVec.toNat_ofNat, Nat.mod_eq_of_lt (by omega)]

/-- Rule R182. -/
theorem unitKnownOf_eq_true {u : Byte} : unitKnownOf u = true ↔ u.toNat ≤ 64 ∧ u.toNat ≠ 51 := by
  rw [← Bool.not_eq_false, unitKnownOf_eq_false, not_or, not_lt]

end Sys2Proof.Machine
end

section
/-! ## The statements of 43_unpacker.md -/

namespace Sys2Proof.Machine

variable {s : State}

/-- Rule R171's precondition: no receive has finished. -/
theorem exec_unpDecode_of_no_result (hnone : s.blk.decResult = .none) :
    exec .unpDecode s = .next (s.answer .rejected) :=
  hostOp_rejected (by rw [hnone]; exact Bool.or_true _)

/-- UNP.DECODE after a frame reports what the tests give of its payload. -/
theorem exec_unpDecode_of_frame {o : UnpOutcome} {v : ValueFields} (hready : s.ready) (hframe : s.blk.decResult = .frame)
    (h : unpack .frame s.blk.pl = (o, v)) :
    exec .unpDecode s = .next ((s.onBlock (Block.reporting o v)).answer .ok) :=
  exec_unpDecode hready (hframe ▸ DecResult.noConfusion) (hframe ▸ h)

/-- Settles O35: `exec_unpDecode` with the lemma of each test, and code 0x7 (`commandWordReadsAsItsCode`). -/
theorem unpackReportsOneOutcome : Obligations.UnpackReportsOneOutcome := by
  intro s
  refine ⟨fun h => h.elim hostOp_of_not_ready exec_unpDecode_of_no_result, fun hready hnoFrame => ?noFrame,
    fun hready hframe => ?frame, fun arg => ?code⟩
  case noFrame => exact exec_unpDecode hready (hnoFrame ▸ DecResult.noConfusion) (hnoFrame ▸ rfl)
  case frame =>
    have reports {o : UnpOutcome} {v : ValueFields} := exec_unpDecode_of_frame (o := o) (v := v) hready hframe
    exact ⟨fun hn => reports (unpack_frame_of_length_lt_two hn),
      fun hn hbad => reports (unpack_frame_of_badHeader hn (Bool.eq_false_iff.2 (hbad ∘ goodHeader_iff.1))),
      fun hgood hn => reports (unpack_frame_of_header_only (goodHeader_iff.2 hgood) hn),
      fun hgood hmore hn => reports (unpack_frame_of_no_fields (goodHeader_iff.2 hgood) hmore hn),
      fun hgood hmore hn => reports (unpack_frame_of_short_mantissa (goodHeader_iff.2 hgood) hmore hn),
      fun hgood hn => reports (unpack_frame_of_whole_mantissa (goodHeader_iff.2 hgood) hn)⟩
  case code =>
    obtain ⟨-, -, -, -, -, -, hcode, -⟩ := commandWordReadsAsItsCode 0x7#4 arg
    exact congrArg Except.ok (hcode rfl)

/-- Settles O36: the last outcome of rule R172, its fields by the lemmas about `fieldsOf`. -/
theorem unpackGivesTheFields : Obligations.UnpackGivesTheFields := by
  intro s p len hready hframe h0 h1 hn
  have hvalue : unpack .frame p = (.value, fieldsOf p) :=
    unpack_frame_of_whole_mantissa (goodHeader_iff.2 ⟨h0, h1⟩) hn
  exact ⟨fieldsOf p, exec_unpDecode_of_frame hready hframe hvalue, fieldsOf_regEcho_toNat p, rfl, unitKnownOf_eq_true,
    rfl, rfl, rfl, expOf_eq _, fieldsOf_mant hn, fieldsOf_mant_lt hn⟩

/-- Settles O37: what is reported is `unpack` of the result and the payload, and reporting it leaves both as they were. -/
theorem unpackReadsOnlyTheResult : Obligations.UnpackReadsOnlyTheResult := by
  intro s s' hready hready' hresult hpl hdone
  obtain ⟨⟨o, v⟩, h⟩ : ∃ r, unpack s.blk.decResult s.blk.pl = r := ⟨_, rfl⟩
  have hfirst := exec_unpDecode hready hdone h
  refine ⟨o, v, hfirst, exec_unpDecode hready' (hresult ▸ hdone) (hresult ▸ hpl ▸ h), ?_⟩
  rw [hfirst, andThen_next]
  exact exec_unpDecode (s := (s.onBlock (Block.reporting o v)).answer .ok) hready hdone h

/-- Settles O41: `3F 10` needs no escape and its CRC is `07 9A`; the frame received and its payload unpacked. -/
theorem emptyReplyIsReported : Obligations.EmptyReplyIsReported := by
  intro s hready hroom
  have hwire : encodeFrame 0x40#8 emptyPayload = [0x40#8, 0x3F#8, 0x10#8, 0x07#8, 0x9A#8, 0x0D#8] := by decide +kernel
  exact ⟨hwire, unpDecode_decFrame_encodeFrame (p := Config.resync) hready (by decide)
    (fun n hn => (congrArg List.length hwire).trans_le (hroom n hn))
    (unpack_frame_of_header_only rfl rfl)⟩

/-- Settles O38: `expOf_eq`, whose magnitude is a remainder by 64. -/
theorem expCtrlIsSignAndMagnitude : Obligations.ExpCtrlIsSignAndMagnitude := by
  intro s c
  refine ⟨expOf c, rfl, fun hpositive => ?_, fun hnegative => ?_, ?_⟩
  · rw [expOf_eq, if_neg (Bool.eq_false_iff.1 hpositive)]
  · rw [expOf_eq, if_pos hnegative]
  · rw [expOf_eq]
    split <;> omega

end Sys2Proof.Machine
end

section
/-! ## Every instruction answers a next state (rules R205, R207, R208, R212) -/

namespace Sys2Proof.Machine

theorem hostOp_answers_next (own : Bool) (f : State → State) (s : State) : ∃ t, hostOp own f s = .next t := ⟨_, rfl⟩

theorem rxOp_answers_next (x : Symbol) (f : Params → Block → Block) (s : State) : ∃ t, rxOp x f s = .next t := ⟨_, rfl⟩

/-- A sequence answers a next state when both of its parts do. -/
theorem andThen_answers_next {o : Out} {f : State → Out} (ho : ∃ u, o = .next u) (hf : ∀ u, ∃ t, f u = .next t) :
    ∃ t, andThen o f = .next t := by
  obtain ⟨u, rfl⟩ := ho
  exact hf u

theorem replyRun_answers_next (payload : List Byte) (s : State) : ∃ t, replyRun payload s = .next t :=
  andThen_answers_next (andThen_answers_next (hostOp_answers_next _ _ s) (receive_answers_next _))
    (fun u => hostOp_answers_next _ _ u)

/-- Settles O44, by the shape of each meaning: a host operation, a received symbol, a direct next state, or a sequence
of these. -/
theorem everyInstructionAnswersANextState : Obligations.EveryInstructionAnswersANextState := by
  intro i s
  cases i with
  | crcClr | crcBit | crcByte | encPush | encSend | decArm | unpDecode => exact hostOp_answers_next _ _ s
  | rxResync => exact rxOp_answers_next _ (fun _ => Block.rxResync) s
  | rxTimeout => exact rxOp_answers_next _ (fun _ => Block.rxTimeout) s
  | rxTerm | rxData => exact rxOp_answers_next _ _ s
  | reserved0 | reserved8 | reserved9 | reservedA | reservedB | reservedC | reservedD | reservedE | reservedF =>
    exact ⟨s.answer .rejected, rfl⟩
  | reset | txEsc06 | txEsc0D | txEsc1B | txEsc40 | txEsc80 | txLit | scanPair | scanLit | expCtrl => exact ⟨_, rfl⟩
  | frame p m => exact andThen_answers_next (pushAll_answers_next m s) fun u => hostOp_answers_next _ _ u
  | reqRead id => exact pushAll_answers_next (requestPayload id) s
  | replyEmpty => exact replyRun_answers_next emptyPayload s
  | replyValue reg unit ctl mant tail => exact replyRun_answers_next (valuePayload reg unit ctl mant tail) s

end Sys2Proof.Machine
end

section
/-! ## When a command word is rejected (rules R93, R208, R209) -/

namespace Sys2Proof.Machine

variable {s : State} {i : Instr}

/-- The port answers REJECTED, with nothing else changed, exactly when `rejected`, and OK otherwise (rule R208). -/
def RejectedExactlyWhen (rejected : Prop) (s : State) (o : Out) : Prop :=
  ∃ t, o = .next t ∧ (rejected → t = s.answer .rejected) ∧ (¬ rejected → t.env.answers = .ok :: s.env.answers)

/-- The condition rule R209 gives an operation beside the block's readiness; a reserved code has no other (rule R93). -/
def OwnCondition (i : Instr) (s : State) : Prop :=
  (∃ v, i = .encPush v) ∧ s.params.txBufMax = some s.blk.txBuf.length
    ∨ i = .unpDecode ∧ s.blk.decResult = .none
    ∨ i ∈ reservedRows

/-- A host operation whose effect leaves the port's answers alone. -/
theorem hostOp_rejectedExactlyWhen {own : Bool} {f : State → State} {condition : Prop}
    (hf : (f s).env.answers = s.env.answers) (hown : own = true ↔ condition) :
    RejectedExactlyWhen (¬ s.ready ∨ condition) s (hostOp own f s) := by
  have hrejected : ¬ s.ready ∨ condition ↔ (s.blk.busy || own) = true := by
    rw [State.not_ready_iff, ← hown, Bool.or_eq_true]
  rw [hrejected]
  cases hbusy : s.blk.busy || own with
  | true => exact ⟨s.answer .rejected, hostOp_rejected hbusy, fun _ => rfl, fun h => absurd rfl h⟩
  | false =>
    exact ⟨(f s).answer .ok, hostOp_taken hbusy, fun h => absurd h Bool.false_ne_true, fun _ => by simp [hf]⟩

/-- Rule R209, row by row. -/
theorem exec_rejectedExactlyWhen (hcmd : i.format = .hostCmd) (s : State) :
    RejectedExactlyWhen (¬ s.ready ∨ OwnCondition i s) s (exec i s) := by
  cases i with
  | crcClr | crcBit | crcByte | encSend | decArm =>
    exact hostOp_rejectedExactlyWhen rfl (by simp [OwnCondition, reservedRows])
  | encPush v => exact hostOp_rejectedExactlyWhen rfl (by simp [OwnCondition, reservedRows, full_eq_true])
  | unpDecode => exact hostOp_rejectedExactlyWhen rfl (by simp [OwnCondition, reservedRows])
  | reserved0 | reserved8 | reserved9 | reservedA | reservedB | reservedC | reservedD | reservedE | reservedF =>
    exact ⟨s.answer .rejected, rfl, fun _ => rfl,
      fun haccepted => absurd (.inr (.inr (.inr (by simp [reservedRows])))) haccepted⟩
  | rxResync | rxTerm | rxData | rxTimeout | reset | txEsc06 | txEsc0D | txEsc1B | txEsc40 | txEsc80 | txLit | scanPair
  | scanLit | frame | reqRead | replyEmpty | replyValue | expCtrl => cases hcmd

/-- The codes that are not reserved, one by one. -/
theorem operationCode_cases {op : BitVec 4} (h : ¬ (op = 0x0#4 ∨ 0x8#4 ≤ op)) :
    op = 0x1#4 ∨ op = 0x2#4 ∨ op = 0x3#4 ∨ op = 0x4#4 ∨ op = 0x5#4 ∨ op = 0x6#4 ∨ op = 0x7#4 := by
  revert op; decide

theorem decodeCmd_mem_reservedRows_iff {w : CmdWord} :
    decodeCmd w ∈ reservedRows ↔ w.extractLsb' 8 4 = 0x0#4 ∨ 0x8#4 ≤ w.extractLsb' 8 4 := by
  refine ⟨fun hmem => by_contra fun hcode => ?_, decodeCmd_mem_reservedRows⟩
  obtain h | h | h | h | h | h | h := operationCode_cases hcode <;> simp [decodeCmd, h, reservedRows] at hmem

/-- Settles O45: a command word is read as a row of its own format, which is rejected exactly under rule R209's
condition, and the reserved rows are what the reserved codes are read as. -/
theorem commandRejectedExactlyWhen : Obligations.CommandRejectedExactlyWhen := by
  intro w s
  have h := exec_rejectedExactlyWhen (format_of_decodeCmd w) s
  rw [OwnCondition, decodeCmd_mem_reservedRows_iff] at h
  exact h

end Sys2Proof.Machine
end

section
/-! ## What leaves a receive (rule R219) -/

namespace Sys2Proof.Machine

variable {s t : State} {j : Instr}

/-- Rule R219 for the single operations: host operations are not taken in a receive, and of the four received symbols
only 0x40 and a data byte with room stay in it. -/
theorem Effect.leaves_receive (h : Effect s j t) (hacc : s.blk.decState = .acc) (hidle : t.blk.decState = .idle) :
    j = .rxTimeout ∨ j = .rxTerm
      ∨ (∃ b, j = .rxData b) ∧ s.params.rxBufMax = some s.blk.rxBuf.length ∧ t.blk.rxOvf = true := by
  have stays (hsame : t.blk.decState = s.blk.decState) : False := by simp [hacc, hidle] at hsame
  have turnedAway (hnotBusy : s.blk.busy = false) : False := by simp [Block.busy_eq_false, hacc] at hnotBusy
  cases h with
  | crcClr notBusy | crcBit _ notBusy | crcByte _ notBusy | encPush _ notBusy | encSend _ notBusy | decArm notBusy
  | unpDecode notBusy => exact (turnedAway notBusy).elim
  | rxResync | rxData => exact (stays rfl).elim
  | rxDataFull v _ noRoom => exact .inr (.inr ⟨⟨v, rfl⟩, noRoom, rfl⟩)
  | rxTerm | rxTermFull => exact .inr (.inl rfl)
  | rxTimeout => exact .inl rfl

/-- Settles O49: RESET and the reply rows (log entry 12) are on the list, and every other row that sets `dec_state`
(`componentsAreSetOnlyBy`) is a single operation, so `Effect.leaves_receive` says how it leaves the receive. -/
theorem receiveIsLeftOnlyBy : Obligations.ReceiveIsLeftOnlyBy := by
  intro i s t hacc h hidle
  by_cases hreset : i = .reset
  · exact .inr (.inr (.inr (.inl hreset)))
  have hchanged : t.blk.decState ≠ s.blk.decState := by simp [hacc, hidle]
  obtain ⟨-, -, hsetBy, -⟩ := componentsAreSetOnlyBy i s t h hreset
  have hrow : Moves i s t ∨ IsReply i := by
    obtain rfl | (rfl | rfl | ⟨b, rfl⟩ | rfl) | hreply := hsetBy hchanged
    · exact .inl (moves_decArm h)
    · exact .inl (moves_rxResync h)
    · exact .inl (moves_rxTerm h)
    · exact .inl (moves_rxData h)
    · exact .inl (moves_rxTimeout h)
    · exact .inr hreply
  obtain hmoves | hreply := hrow
  · exact ((hmoves.effect hchanged).leaves_receive hacc hidle).imp_right (Or.imp_right .inl)
  · exact .inr (.inr (.inr (.inr hreply)))

end Sys2Proof.Machine
end

section
/-! ## A receive without an end (rule R254) -/

namespace Sys2Proof.Machine

variable {s : State}

/-- A listening block takes a 0x40 whatever its capacity, and has restarted its buffer (rule R144). -/
theorem rxSymbol_resync (hlisten : s.listening) :
    rxSymbol (.byte Config.resync) s = .next (s.onBlock Block.rxResync) :=
  exec_rxResync hlisten

/-- The restart overwrites the buffer and leaves the block listening, so a run of 0x40 does what one of them does. -/
theorem receive_replicate_resync (n : Nat) (hlisten : s.listening) :
    receive (List.replicate (n + 1) (.byte Config.resync)) s = .next (s.onBlock Block.rxResync) := by
  induction n generalizing s with
  | zero => exact receive_cons [] hlisten (rxSymbol_resync hlisten)
  | succ n ih =>
    have hstays : (s.onBlock Block.rxResync).listening := hlisten
    rw [List.replicate_succ, receive_cons _ hlisten (rxSymbol_resync hlisten), ih hstays]
    rfl

/-- Settles O34, by induction on the number of 0x40 (`receive_replicate_resync`). -/
theorem endlessResyncNeverEnds : Obligations.EndlessResyncNeverEnds := fun _ => receive_replicate_resync

end Sys2Proof.Machine
end
